-- ==== Sys2Proof/Word.lean ====
section
/-! DEFINITION. The widths of the engine's values (spec 00_scope.md R9, R11) and the two decoded header records
(spec 41_codec.md R140, R144). -/

namespace Sys2Proof

/-- A byte, a number in 0..255 (R9). -/
abbrev Byte := BitVec 8

/-- A u16: a port, a window, a checksum, a length field (R9, R11). -/
abbrev U16 := BitVec 16

/-- A u32: an IPv4 address or a sequence counter (R9, R11, R26). -/
abbrev U32 := BitVec 32

/-- A buffer: a finite list of bytes, byte 0 first (R9). Datagrams, headers and payloads are buffers. -/
abbrev Buffer := List Byte

/-- The decoded IPv4 header, one field per item of the wire format (R82, R140). -/
structure IPv4Header where
  version        : BitVec 4
  ihl            : BitVec 4
  tos            : Byte
  totalLength    : U16
  identification : U16
  flagsFrag      : U16
  ttl            : Byte
  protocol       : Byte
  checksum       : U16
  src            : U32
  dst            : U32
  deriving DecidableEq, Repr

/-- The decoded TCP header, one field per item of the wire format (R84, R144). -/
structure TCPHeader where
  srcPort  : U16
  dstPort  : U16
  seq      : U32
  ack      : U32
  doff     : BitVec 4
  reserved : BitVec 3
  ns       : BitVec 1
  flags    : Byte
  window   : U16
  checksum : U16
  urgent   : U16
  deriving DecidableEq, Repr

end Sys2Proof
end

