-- ==== Sys2Proof/Machine/Operands.lean ====
section
/-! DEFINITION. Buffers and byte order: the primitives of spec 00_scope.md R9, R10, R12 and 20_memory.md R67 to R69. -/

namespace Sys2Proof.Machine

/-- `B[i]` (R9). Every use is guarded by a length check, so the 0 past the end is never read by a rule (R69). -/
def byteAt (B : Buffer) (i : Nat) : Byte := B.getD i 0

/-- `be16(B, i)`, the most significant byte first (R10). -/
def be16 (B : Buffer) (i : Nat) : U16 :=
  BitVec.ofNat 16 ((byteAt B i).toNat * 256 + (byteAt B (i + 1)).toNat)

/-- `be32(B, i)`, the most significant byte first (R10). -/
def be32 (B : Buffer) (i : Nat) : U32 :=
  BitVec.ofNat 32 ((byteAt B i).toNat * 16777216 + (byteAt B (i + 1)).toNat * 65536
    + (byteAt B (i + 2)).toNat * 256 + (byteAt B (i + 3)).toNat)

/-- `put16(v)` (R10). -/
def put16 (v : U16) : Buffer := [BitVec.ofNat 8 (v.toNat / 256), BitVec.ofNat 8 v.toNat]

/-- `put32(v)` (R10). -/
def put32 (v : U32) : Buffer :=
  [BitVec.ofNat 8 (v.toNat / 16777216), BitVec.ofNat 8 (v.toNat / 65536),
   BitVec.ofNat 8 (v.toNat / 256), BitVec.ofNat 8 v.toNat]

/-- `B[i..j)`, empty when `j <= i` (R9). -/
def slice (B : Buffer) (i j : Nat) : Buffer := (B.drop i).take (j - i)

/-- `MemWrite(i, 2, v)`: the buffer with bytes `i` and `i+1` replaced by `put16 v` (R12). -/
def memWrite16 (B : Buffer) (i : Nat) (v : U16) : Buffer := B.take i ++ put16 v ++ B.drop (i + 2)

/-- The most significant four bits of a byte, its first-listed sub-field (R81). -/
def hiNibble (b : Byte) : BitVec 4 := BitVec.ofNat 4 (b.toNat / 16)

/-- The least significant four bits of a byte (R81). -/
def loNibble (b : Byte) : BitVec 4 := BitVec.ofNat 4 b.toNat

/-- Byte 0 of an IPv4 header, `(version << 4) | ihl` (R82, R89). -/
def nibbles (hi lo : BitVec 4) : Byte := BitVec.ofNat 8 (hi.toNat * 16 + lo.toNat)

/-- Byte 12 of a TCP header, `(doff << 4) | (reserved << 1) | ns` (R84, R89). -/
def offsetByte (doff : BitVec 4) (reserved : BitVec 3) (ns : BitVec 1) : Byte :=
  BitVec.ofNat 8 (doff.toNat * 16 + reserved.toNat * 2 + ns.toNat)

/-- The 3-bit `reserved` field of byte 12 of a TCP header, `(T[12] >> 1) & 7` (R84). -/
def reservedBits (b : Byte) : BitVec 3 := BitVec.ofNat 3 (b.toNat / 2)

/-- The `ns` bit of byte 12 of a TCP header, `T[12] & 1` (R84). -/
def nsBit (b : Byte) : BitVec 1 := BitVec.ofNat 1 b.toNat

/-- `a +32 n`, addition modulo 2^32 (R9, R26). -/
def seqAdd (a : U32) (n : Nat) : U32 := BitVec.ofNat 32 (a.toNat + n)

/-- The `w`-bit value of a number, for the fields whose width is an OPEN parameter (R8, R9). -/
def atWidth (w v : Nat) : Nat := v % 2 ^ w

end Sys2Proof.Machine
end

