-- ==== Sys2Proof/Machine/Checksum.lean ====
section
/-! DEFINITION. The Internet checksum and the TCP checksum with its pseudo-header, as functions of buffers
(spec 40_checksum.md R120 to R125, 30_encoding.md R87). -/

namespace Sys2Proof.Machine

/-- The sum of the big-endian 16-bit words of a buffer, over the naturals. A final byte without a partner is the high
byte of a word whose low byte is zero (R120, R121). -/
def sumWords : Buffer → Nat
  | [] => 0
  | [b] => b.toNat * 256
  | a :: b :: rest => a.toNat * 256 + b.toNat + sumWords rest

/-- End-around carry folding (R120): while the accumulator exceeds 0xFFFF, its low sixteen bits plus the rest. The fuel
bounds the number of rounds; the accumulator falls in every round, so the accumulator itself is fuel enough. -/
def foldCarry : Nat → Nat → Nat
  | 0, acc => acc
  | fuel + 1, acc => if acc ≤ 65535 then acc else foldCarry fuel (acc % 65536 + acc / 65536)

/-- OCSUM, the 16-bit one's-complement sum (R120). -/
def onesSum (B : Buffer) : U16 := BitVec.ofNat 16 (foldCarry (sumWords B) (sumWords B))

/-- CSUM, the Internet checksum (R122). -/
def internetChecksum (B : Buffer) : U16 := 0xFFFF - onesSum B

/-- CSUMOK, the verification rule (R124). -/
def checksumOk (B : Buffer) : Bool := onesSum B == 0xFFFF

/-- The 12-byte pseudo-header of a segment with `plen` payload bytes (R87). -/
def pseudoHeader (srcIp dstIp : U32) (plen : Nat) : Buffer :=
  put32 srcIp ++ put32 dstIp ++ [0x00, 0x06] ++ put16 (BitVec.ofNat 16 (20 + plen))

/-- TCPCSUM (R125): the header's own checksum field, bytes 16 and 17, is zero during the pass. -/
def tcpChecksum (header : Buffer) (srcIp dstIp : U32) (payload : Buffer) : U16 :=
  internetChecksum (pseudoHeader srcIp dstIp payload.length ++ memWrite16 header 16 0 ++ payload)

end Sys2Proof.Machine
end

