-- ==== Sys2Proof/Machine/Flags.lean ====
section
/-! DEFINITION. The TCP control flags (spec 30_encoding.md R85, R90) and the sequence space a segment consumes
(spec 43_send_path.md R204). -/

namespace Sys2Proof.Machine

/-- The mask of FIN, bit 0 (R85). -/
def finMask : Byte := 0x01

/-- The mask of SYN, bit 1 (R85). -/
def synMask : Byte := 0x02

/-- The mask of RST, bit 2 (R85); no rule tests it. -/
def rstMask : Byte := 0x04

/-- The mask of PSH, bit 3 (R85). -/
def pshMask : Byte := 0x08

/-- The mask of ACK, bit 4 (R85). -/
def ackMask : Byte := 0x10

/-- The mask of URG, bit 5 (R85); no rule tests it. -/
def urgMask : Byte := 0x20

/-- The mask of ECE, bit 6 (R85); no rule tests it. -/
def eceMask : Byte := 0x40

/-- The mask of CWR, bit 7 (R85); no rule tests it. -/
def cwrMask : Byte := 0x80

/-- `flag_set(f, X) = (f & mask_X) != 0` (R85): a test of the named bit only (R172). -/
def flagSet (f mask : Byte) : Bool := f &&& mask != 0

/-- A set of flags encoded as the OR of their masks (R149). -/
def flagsOf (masks : List Byte) : Byte := masks.foldl (· ||| ·) 0

/-- The flags byte of TX.SYN (R90). -/
def synFlags : Byte := 0x02

/-- The flags byte of TX.ACK (R90). -/
def ackFlags : Byte := 0x10

/-- The flags byte of TX.FINACK (R90). -/
def finAckFlags : Byte := 0x11

/-- The flags byte of TX.PSHACK (R90). -/
def pshAckFlags : Byte := 0x18

/-- How far a transmitted segment advances `send_seq`: its payload length, plus one if SYN or FIN is set (R204). -/
def sequenceSpace (flags : Byte) (plen : Nat) : Nat := plen + if flags &&& 0x03 != 0 then 1 else 0

end Sys2Proof.Machine
end

