-- ==== Sys2Proof/Machine/Codec.lean ====
section
/-! DEFINITION. The header codec as functions of records and buffers (spec 41_codec.md; layouts of spec
30_encoding.md R82, R84). -/

namespace Sys2Proof.Machine

/-- PACK.IPV4 (R141, layout R82): the checksum is stored as given. -/
def packIpv4 (h : IPv4Header) : Buffer :=
  [nibbles h.version h.ihl, h.tos] ++ put16 h.totalLength ++ put16 h.identification ++ put16 h.flagsFrag
    ++ [h.ttl, h.protocol] ++ put16 h.checksum ++ put32 h.src ++ put32 h.dst

/-- DEC.IPV4 (R142): bytes 0 to 19 of a buffer that holds at least 20; nothing is checked. -/
def unpackIpv4 (B : Buffer) : IPv4Header where
  version := hiNibble (byteAt B 0)
  ihl := loNibble (byteAt B 0)
  tos := byteAt B 1
  totalLength := be16 B 2
  identification := be16 B 4
  flagsFrag := be16 B 6
  ttl := byteAt B 8
  protocol := byteAt B 9
  checksum := be16 B 10
  src := be32 B 12
  dst := be32 B 16

/-- The IPv4 header the send path builds, before its checksum is filled in (R143, R83; constants D13). -/
def bareIpv4 (plen : Nat) (ipId : U16) (src dst : U32) : IPv4Header where
  version := 4
  ihl := 5
  tos := 0
  totalLength := BitVec.ofNat 16 (40 + plen)
  identification := ipId
  flagsFrag := 0
  ttl := 64
  protocol := 6
  checksum := 0
  src := src
  dst := dst

/-- ENC.IPV4 (R143): the checksum over the 20 header bytes with its field zero, stored at bytes 10 and 11. -/
def buildIpv4 (plen : Nat) (ipId : U16) (src dst : U32) : Buffer :=
  memWrite16 (packIpv4 (bareIpv4 plen ipId src dst)) 10
    (internetChecksum (packIpv4 (bareIpv4 plen ipId src dst)))

/-- PACK.TCP (R145, layout R84): the checksum is stored as given. -/
def packTcp (t : TCPHeader) : Buffer :=
  put16 t.srcPort ++ put16 t.dstPort ++ put32 t.seq ++ put32 t.ack ++ [offsetByte t.doff t.reserved t.ns, t.flags]
    ++ put16 t.window ++ put16 t.checksum ++ put16 t.urgent

/-- DEC.TCP (R146): bytes 0 to 19 of a buffer that holds at least 20; nothing is checked. -/
def unpackTcp (T : Buffer) : TCPHeader where
  srcPort := be16 T 0
  dstPort := be16 T 2
  seq := be32 T 4
  ack := be32 T 8
  doff := hiNibble (byteAt T 12)
  reserved := reservedBits (byteAt T 12)
  ns := nsBit (byteAt T 12)
  flags := byteAt T 13
  window := be16 T 14
  checksum := be16 T 16
  urgent := be16 T 18

/-- The TCP header the send path builds, before its checksum is filled in (R147, R86; constants D14). -/
def bareTcp (sp dp : U16) (seq ack : U32) (flags : Byte) (window : U16) : TCPHeader where
  srcPort := sp
  dstPort := dp
  seq := seq
  ack := ack
  doff := 5
  reserved := 0
  ns := 0
  flags := flags
  window := window
  checksum := 0
  urgent := 0

/-- ENC.TCP (R147): the TCP checksum stored at bytes 16 and 17. -/
def buildTcp (sp dp : U16) (seq ack : U32) (flags : Byte) (window : U16) (srcIp dstIp : U32) (payload : Buffer) :
    Buffer :=
  memWrite16 (packTcp (bareTcp sp dp seq ack flags window)) 16
    (tcpChecksum (packTcp (bareTcp sp dp seq ack flags window)) srcIp dstIp payload)

/-- The byte offset of the TCP header, `4*ihl` (R88, R150). -/
def tcpOffset (ip : IPv4Header) : Nat := 4 * ip.ihl.toNat

/-- The byte offset of the payload, `4*ihl + 4*doff` (R88, R151). -/
def payloadOffset (ip : IPv4Header) (tcp : TCPHeader) : Nat := tcpOffset ip + 4 * tcp.doff.toNat

/-- Whether the TCP header lies after the IPv4 header and inside the buffer: checks (b) and (c) of R150. -/
def tcpInBounds (ip : IPv4Header) (B : Buffer) : Bool :=
  decide (5 ≤ ip.ihl.toNat) && decide (tcpOffset ip + 20 ≤ B.length)

/-- The TCP header of a received buffer whose IPv4 header is `ip` (R150). -/
def tcpOf (ip : IPv4Header) (B : Buffer) : TCPHeader := unpackTcp (slice B (tcpOffset ip) (tcpOffset ip + 20))

/-- The payload of a received buffer, clamped to empty when the offset lies past the end (R151). -/
def payloadOf (ip : IPv4Header) (tcp : TCPHeader) (B : Buffer) : Buffer :=
  slice B (payloadOffset ip tcp) (payloadOffset ip tcp + (B.length - payloadOffset ip tcp))

/-- DEC.DGRAM (R150, R151): `none` is Malformed. -/
def decodeDatagram (B : Buffer) : Option (IPv4Header × TCPHeader × Buffer) :=
  if B.length < 40 then none
  else
    let ip := unpackIpv4 (slice B 0 20)
    if !tcpInBounds ip B then none
    else
      let tcp := tcpOf ip B
      if tcp.doff.toNat < 5 then none
      else some (ip, tcp, payloadOf ip tcp B)

end Sys2Proof.Machine
end

