-- ==== Sys2Proof/Config.lean ====
section
/-! DEFINITION. The OPEN parameters of spec 00_scope.md R8, and the free values: what the environment supplies under
no law (spec 20_memory.md R64, R65; decision D34) once the answers listed in the state are used up. -/

namespace Sys2Proof

/-- The OPEN parameters of R8, which the model takes as an argument, each with the spec's default. A machine carries
its own (log 13): no operation writes them, and what is said of every state is said of every value of them. -/
structure OpenParams where
  /-- W_TS, the width of `last_sent` and of the `now` input (D9). -/
  wTs      : Nat := 64
  /-- W_RTX, the width of `retransmit_count` (D32). -/
  wRtx     : Nat := 32
  /-- MAX_RX_LEN, the largest datagram the RX port presents, in bytes (R62, D28). -/
  maxRxLen : Nat := 65535
  deriving DecidableEq, Repr

/-- MAX_PAYLOAD = 65535 - 40, the largest payload SEND accepts (R8, D27). -/
def Config.maxPayload : Nat := 65495

/-- The largest payload TCPCSUM is defined for, so that 20 + length is a u16 (R125, D37). -/
def Config.maxTcpPayload : Nat := 65515

/-- What CONNECT takes from its environment: whether the transport could be created, the initial sequence number
(R64), and the two configuration inputs it samples (R65). -/
structure ConnectDraw where
  transportOk : Bool
  isn         : U32
  localAddr   : U32
  localPort   : U16
  deriving DecidableEq, Repr, Inhabited

/-- What one transmission takes from its environment: the triple (ip_id, tx_ok, now) of R64. Of `now` the engine
takes W_TS bits (log 13). -/
structure TransmitDraw where
  ipId : U16
  txOk : Bool
  now  : Nat
  deriving DecidableEq, Repr, Inhabited

/-- Free value (log 2): the n-th answer of the environment to a CONNECT for which the state lists none. -/
opaque Config.freeConnect : Nat → ConnectDraw

/-- Free value (log 2): the n-th answer of the environment to a transmission for which the state lists none. -/
opaque Config.freeTransmit : Nat → TransmitDraw

/-- Free value (log 4): at a step boundary for which the state lists no sample, whether a pending command is taken
before a pending RX outcome (either order is admitted, R72, D34). -/
opaque Config.freeTurn : Nat → Bool

end Sys2Proof
end

