-- ==== Sys2Proof/Syntax.lean ====
section
/-! DEFINITION. The operations: one constructor per row of spec/opcode_table.json (spec 30_encoding.md R100, R105),
each with the operands its rule gives it. -/

namespace Sys2Proof

/-- One operation of the engine. Host commands, transmit kinds and receive classes first, then the codec, the checksum
unit, the filter, the state machine and send path, then the environment's events. -/
inductive Instr where
  /-- CONNECT, opcode 0x01 (R251). -/
  | connect (remoteAddr : U32) (remotePort : U16)
  /-- SEND, opcode 0x02 (R252). -/
  | send (data : Buffer)
  /-- CLOSE, opcode 0x03, the row selected in ESTABLISHED (R253). -/
  | closeEstablished
  /-- CLOSE, opcode 0x03, the row selected in every other state (R254). -/
  | closeRelease
  /-- RUN, opcode 0x04 (R255). -/
  | run
  /-- A reserved opcode, 0x00 or 0x05 to 0xFF (R101, R256). -/
  | cmdReserved (opcode : Byte)
  /-- The segment kind TX.SYN, flags 0x02 (R90). -/
  | txSyn
  /-- The segment kind TX.ACK, flags 0x10 (R90). -/
  | txAck
  /-- The segment kind TX.FINACK, flags 0x11 (R90). -/
  | txFinack
  /-- The segment kind TX.PSHACK, flags 0x18, with the host's bytes (R90). -/
  | txPshack (payload : Buffer)
  /-- The receive class RX.SYNSENT.SYNACK (R91, R173). -/
  | rxSynsentSynack (tcp : TCPHeader) (payload : Buffer)
  /-- The receive class RX.EST.DATA (R91, R174). -/
  | rxEstData (tcp : TCPHeader) (payload : Buffer)
  /-- The receive class RX.EST.FIN (R91, R175). -/
  | rxEstFin (tcp : TCPHeader) (payload : Buffer)
  /-- The receive class RX.LASTACK.ACK (R91, R176). -/
  | rxLastackAck (tcp : TCPHeader) (payload : Buffer)
  /-- The receive class RX.IGNORE (R91, R177). -/
  | rxIgnore (tcp : TCPHeader) (payload : Buffer)
  /-- PACK.IPV4 (R141). -/
  | packIpv4 (header : IPv4Header)
  /-- DEC.IPV4 (R142). -/
  | decIpv4 (buffer : Buffer)
  /-- ENC.IPV4 (R143): payload length, identification, source, destination. -/
  | encIpv4 (plen : Nat) (ipId : U16) (src dst : U32)
  /-- PACK.TCP (R145). -/
  | packTcp (header : TCPHeader)
  /-- DEC.TCP (R146). -/
  | decTcp (buffer : Buffer)
  /-- ENC.TCP (R147). -/
  | encTcp (sp dp : U16) (seq ack : U32) (flags : Byte) (window : U16) (srcIp dstIp : U32) (payload : Buffer)
  /-- PSEUDO, the pseudo-header of a segment with `plen` payload bytes (R87). -/
  | pseudo (srcIp dstIp : U32) (plen : Nat)
  /-- OCSUM (R120). -/
  | ocsum (buffer : Buffer)
  /-- CSUM (R122). -/
  | csum (buffer : Buffer)
  /-- CSUMOK (R124). -/
  | csumok (buffer : Buffer)
  /-- TCPCSUM (R125): a 20-byte TCP header, the two addresses, the payload. -/
  | tcpcsum (header : Buffer) (srcIp dstIp : U32) (payload : Buffer)
  /-- DEC.DGRAM (R150, R151). -/
  | decDgram (buffer : Buffer)
  /-- FILTER.IP (R223, R224). -/
  | filterIp (ip : IPv4Header)
  /-- FILTER.PORT (R226). -/
  | filterPort (tcp : TCPHeader)
  /-- HANDLE (R171). -/
  | handle (tcp : TCPHeader) (payload : Buffer)
  /-- SENDSEG (R200). -/
  | sendseg (flags : Byte) (payload : Buffer)
  /-- The event RX_DATAGRAM (R221). -/
  | rxDatagram (buffer : Buffer)
  /-- The event RX_TIMEOUT (R231). -/
  | rxTimeout
  /-- The event RX_ERROR (R232). -/
  | rxError
  /-- The event RESET (R300). -/
  | reset
  deriving DecidableEq, Repr

end Sys2Proof
end

