-- ==== Sys2Proof/Machine/State.lean ====
section
/-! DEFINITION. The state: the spec's record (ccb, run_en) (spec 10_state.md R20), and as plain data what a step takes
from and gives to its ports (spec 00_scope.md R13, 20_memory.md R60 to R66). -/

namespace Sys2Proof.Machine

/-- The eleven protocol states, in the order of their codes 0 to 10 (R23, R96). -/
inductive TcpState where
  | closed | listen | synSent | synReceived | established | finWait1 | finWait2 | closeWait | closing | lastAck
  | timeWait
  deriving DecidableEq, Repr

/-- The connection control block, fields numbered 0 to 12 (R21). The widths of `lastSent` and `retransmitCount` are OPEN
parameters (R8), so the two are numbers; each stays below its width (log 13; `Safety.WidthsSound`). -/
structure Ccb where
  state           : TcpState
  localAddr       : U32
  localPort       : U16
  remoteAddr      : U32
  remotePort      : U16
  sendSeq         : U32
  sendAck         : U32
  recvSeq         : U32
  recvAck         : U32
  sendWindow      : U16
  recvWindow      : U16
  lastSent        : Nat
  retransmitCount : Nat
  deriving DecidableEq, Repr

/-- The status of a response (R98, R271). PeerUnreachable, MalformedSegment and ReceiveFailed are no command's status:
the first is never produced, the other two are the error kinds of verdicts (R230, R271). -/
inductive Status where
  | ok | transportUnavailable | sendFailed | notConnected | malformedSegment | peerUnreachable | busy
  | payloadTooLong | receiveFailed | badCommand
  deriving DecidableEq, Repr

/-- The verdict of an RX step (R99). -/
inductive Verdict where
  | handled | ignored | dropMalformed | dropNotTcp | dropAddr | dropPort | abortSendFailed | timeout | recvFailed
  deriving DecidableEq, Repr

/-- The outcome of the state machine on one segment (R170). -/
inductive HandleOutcome where
  | handled | ignored | abortSendFailed
  deriving DecidableEq, Repr

/-- One command on the command port: its 8-bit opcode beside the operands of R100 (R60, R66). An opcode reads only the
operands its row names. DESIGN CHOICE (log 20): the operands are values, not bytes behind the opcode. -/
structure CommandWord where
  opcode     : Byte
  remoteAddr : U32
  remotePort : U16
  data       : Buffer
  deriving DecidableEq, Repr

/-- One outcome of the RX port (R62): Ok(Some(bytes)), Ok(None), Err. -/
inductive RxOutcome where
  | datagram (buffer : Buffer)
  | timeout
  | error
  deriving DecidableEq, Repr

/-- What the environment shows at one boundary between steps (R72, R273, R274): the reset input, and whether a pending
command is taken before a pending RX outcome. -/
structure Boundary where
  reset        : Bool
  commandFirst : Bool
  deriving DecidableEq, Repr

/-- One output on a port (R13, R60). The response of SEND carries a count (R250). -/
inductive OutEvent where
  | tx (datagram : Buffer)
  | sink (payload : Buffer)
  | response (status : Status) (count : Option Nat)
  | verdict (code : Verdict)
  deriving DecidableEq, Repr

/-- The result of a unit operation executed by itself (R100). -/
inductive UnitResult where
  /-- A buffer: PACK.IPV4, ENC.IPV4, PACK.TCP, ENC.TCP, PSEUDO. -/
  | buffer (bytes : Buffer)
  /-- A u16: OCSUM, CSUM, TCPCSUM. -/
  | word (value : U16)
  /-- One bit: CSUMOK. -/
  | bit (value : Bool)
  /-- A decoded IPv4 header: DEC.IPV4. -/
  | ipv4 (header : IPv4Header)
  /-- A decoded TCP header: DEC.TCP. -/
  | tcp (header : TCPHeader)
  /-- DEC.DGRAM: Malformed (none) or the parts of the datagram. -/
  | dgram (parts : Option (IPv4Header × TCPHeader × Buffer))
  /-- FILTER.IP, FILTER.PORT: pass (none) or the verdict of the drop. -/
  | filter (drop : Option Verdict)
  /-- SENDSEG and the transmit kinds: Sent (true) or Failed (false). -/
  | sent (ok : Bool)
  /-- HANDLE and the receive classes. -/
  | outcome (value : HandleOutcome)
  deriving DecidableEq, Repr

/-- The state. `ccb` and `runEn` are the spec's (R20); the rest is the model's own form of the ports and draws. -/
structure State where
  /-- The OPEN parameters of this machine (R8; log 13). -/
  params        : OpenParams
  /-- The connection control block (R21). -/
  ccb           : Ccb
  /-- `run_en`, "the dispatch loop is running" (R30). -/
  runEn         : Bool
  /-- Commands the host has presented or will present, next first (R66; log 1). -/
  cmdPort       : List CommandWord
  /-- RX outcomes the transport holds or will present, next first (R62; log 1). -/
  rxPort        : List RxOutcome
  /-- Samples of the step boundaries to come, next first (R72, R273; log 4). -/
  boundaries    : List Boundary
  /-- The environment's answers to coming CONNECTs, next first (R64, R65; log 2, log 3). -/
  connectDraws  : List ConnectDraw
  /-- The environment's answers to coming transmissions, next first (R64; log 2). -/
  transmitDraws : List TransmitDraw
  /-- How many free values of Config have been drawn (log 2). -/
  tick          : Nat
  /-- Everything the engine has put out, oldest first (R72; log 5). -/
  outputs       : List OutEvent
  /-- The result of the last unit operation executed by itself (log 6). -/
  result        : Option UnitResult
  deriving DecidableEq, Repr

/-- Why the machine stops with a fault. The spec has no fatal abort (R270); no command or event raises one. -/
inductive Fault where
  /-- Raised by DEC.IPV4 and DEC.TCP executed by themselves on a buffer of fewer than 20 bytes: the rules define the
  read only for buffers whose length the caller has checked (R12, R142, R146). Safe (log 12). -/
  | readPastBuffer
  deriving DecidableEq, Repr

/-- Why the machine has no meaning for what it was asked. -/
inductive Refusal where
  /-- Raised by an arm of exec for an operation without a meaning. Safe. No arm raises it. -/
  | notModelled (mnemonic : String)
  /-- Raised by an RX event executed while run_en = 0: "none of the three events has a step" (R220). Safe (log 11). -/
  | rxNotTaken
  /-- Raised by step on an RX datagram longer than MAX_RX_LEN, which the environment never presents (R62, D28). Safe
  (log 13). -/
  | notPresented
  /-- Raised by a unit operation executed by itself with operands its rule does not define it for: a payload whose
  length field would overflow, a TCP header that is not 20 bytes (R125, R143, R147, R200, D27, D37). Safe (log 12). -/
  | outsideDomain
  deriving DecidableEq, Repr

/-- Every CCB field 0, so `state = CLOSED` (R34, R301). -/
def Ccb.zero : Ccb where
  state := .closed
  localAddr := 0
  localPort := 0
  remoteAddr := 0
  remotePort := 0
  sendSeq := 0
  sendAck := 0
  recvSeq := 0
  recvAck := 0
  sendWindow := 0
  recvWindow := 0
  lastSent := 0
  retransmitCount := 0

/-- The machine right after reset (R34, R300, R301): the dispatcher off, nothing pending on a port, nothing put out; the
OPEN parameters at the spec's defaults (R8; log 13). -/
def State.reset : State where
  params := {}
  ccb := Ccb.zero
  runEn := false
  cmdPort := []
  rxPort := []
  boundaries := []
  connectDraws := []
  transmitDraws := []
  tick := 0
  outputs := []
  result := none

end Sys2Proof.Machine
end

