-- ==== Sys2Proof/Machine/Ops.lean ====
section
/-! DEFINITION. The named operations over the state: the CCB and `run_en`, the ports, the draws, the host's register
view, the codes, and the one way an error ends a step (spec 10_state.md, 20_memory.md, 30_encoding.md R96 to R99,
60_exceptions.md R270). -/

namespace Sys2Proof.Machine

/-- `ccb.state <- st` (R23). -/
def setTcpState (st : TcpState) (s : State) : State := { s with ccb := { s.ccb with state := st } }

/-- Replace the whole CCB. -/
def setCcb (c : Ccb) (s : State) : State := { s with ccb := c }

/-- `run_en <- b` (R30). -/
def setRunEn (b : Bool) (s : State) : State := { s with runEn := b }

/-- Put one output on its port, after all earlier ones (R70, R72). -/
def emit (e : OutEvent) (s : State) : State := { s with outputs := s.outputs ++ [e] }

/-- Leave the result of a unit operation executed by itself (R100; log 6). -/
def setResult (r : UnitResult) (s : State) : State := { s with result := some r }

/-- `recv_seq` and `send_ack` advanced together by `n`, modulo 2^32 (R26, R29, R174, R175). -/
def advanceReceive (n : Nat) (s : State) : State :=
  { s with ccb := { s.ccb with recvSeq := seqAdd s.ccb.recvSeq n, sendAck := seqAdd s.ccb.sendAck n } }

/-- What a successful transmission writes: `send_seq` advanced by the sequence space consumed, `last_sent` (R204). -/
def recordSend (space : Nat) (now : Nat) (s : State) : State :=
  { s with ccb := { s.ccb with sendSeq := seqAdd s.ccb.sendSeq space, lastSent := now } }

/-- The response of a command that succeeds without a count (R250). -/
def respondOk (s : State) : State := emit (.response .ok none) s

/-- The response of a SEND that succeeds (R250, R252). -/
def respondCount (n : Nat) (s : State) : State := emit (.response .ok (some n)) s

/-- `raise <Kind>` in a command: the step ends with that status; what was written stays written, nothing else is
recorded, no state is saved and control goes nowhere (R270, R275). -/
def raiseStatus (kind : Status) (s : State) : State := emit (.response kind none) s

/-- The verdict of an RX step (R230, R272). -/
def giveVerdict (v : Verdict) (s : State) : State := emit (.verdict v) s

/-- `CLOSED` and `TIME_WAIT`, at which the dispatch loop ends (R229). -/
def isTerminal : TcpState → Bool
  | .closed => true
  | .timeWait => true
  | .listen => false
  | .synSent => false
  | .synReceived => false
  | .established => false
  | .finWait1 => false
  | .finWait2 => false
  | .closeWait => false
  | .closing => false
  | .lastAck => false

/-- The end of the dispatch loop: `run_en` clears when the state is terminal (R30, R229). -/
def endLoopIfTerminal (s : State) : State := if isTerminal s.ccb.state then setRunEn false s else s

/-- Release (R254): the CCB returns to CLOSED, `run_en` clears, the other twelve fields keep their values (R35). -/
def release (s : State) : State := setRunEn false (setTcpState .closed s)

/-- The environment's answer to a CONNECT: the next one listed, else a free value (R64, R65; log 2). -/
def drawConnect (s : State) : ConnectDraw × State :=
  match s.connectDraws with
  | d :: rest => (d, { s with connectDraws := rest })
  | [] => (Config.freeConnect s.tick, { s with tick := s.tick + 1 })

/-- A transmission's answer as the engine takes it: `now` is W_TS bits (R8, R64; log 13). -/
def narrowNow (params : OpenParams) (draw : TransmitDraw) : TransmitDraw :=
  { draw with now := atWidth params.wTs draw.now }

/-- The environment's answer to a transmission: the next one listed, else a free value (R64; log 2). -/
def drawTransmit (s : State) : TransmitDraw × State :=
  match s.transmitDraws with
  | d :: rest => (narrowNow s.params d, { s with transmitDraws := rest })
  | [] => (narrowNow s.params (Config.freeTransmit s.tick), { s with tick := s.tick + 1 })

/-- What the environment shows at a step boundary: the next sample listed; past the list the reset input is low and the
order of a command and an RX outcome is a free value (R72, R273, R274; log 4). -/
def drawBoundary (s : State) : Boundary × State :=
  match s.boundaries with
  | b :: rest => (b, { s with boundaries := rest })
  | [] => ({ reset := false, commandFirst := Config.freeTurn s.tick }, { s with tick := s.tick + 1 })

/-- The code of a protocol state (R96). -/
def stateCode : TcpState → Nat
  | .closed => 0
  | .listen => 1
  | .synSent => 2
  | .synReceived => 3
  | .established => 4
  | .finWait1 => 5
  | .finWait2 => 6
  | .closeWait => 7
  | .closing => 8
  | .lastAck => 9
  | .timeWait => 10

/-- The code of a status (R98). -/
def statusCode : Status → Nat
  | .ok => 0
  | .transportUnavailable => 1
  | .sendFailed => 2
  | .notConnected => 3
  | .malformedSegment => 4
  | .peerUnreachable => 5
  | .busy => 6
  | .payloadTooLong => 7
  | .receiveFailed => 8
  | .badCommand => 9

/-- The code of a verdict (R99). -/
def verdictCode : Verdict → Nat
  | .handled => 0
  | .ignored => 1
  | .dropMalformed => 2
  | .dropNotTcp => 3
  | .dropAddr => 4
  | .dropPort => 5
  | .abortSendFailed => 6
  | .timeout => 7
  | .recvFailed => 8

/-- The error kind of a verdict; `none` for the filter's drops and for verdicts that are no error (R230). -/
def verdictKind : Verdict → Option Status
  | .handled => none
  | .ignored => none
  | .dropMalformed => some .malformedSegment
  | .dropNotTcp => none
  | .dropAddr => none
  | .dropPort => none
  | .abortSendFailed => some .sendFailed
  | .timeout => none
  | .recvFailed => some .receiveFailed

/-- The verdict of a state machine's outcome (R99, R170). -/
def verdictOf : HandleOutcome → Verdict
  | .handled => .handled
  | .ignored => .ignored
  | .abortSendFailed => .abortSendFailed

/-- The host's read of register `n` (R32, R33): the field zero-extended, LAST_SENT bits [W_TS-1:0] and RETRANSMIT_COUNT
bits [W_RTX-1:0]; any other number reads 0. It is an observation between two steps, no step. -/
def readRegister (s : State) (n : Nat) : Nat :=
  match n with
  | 0 => stateCode s.ccb.state
  | 1 => s.ccb.localAddr.toNat
  | 2 => s.ccb.localPort.toNat
  | 3 => s.ccb.remoteAddr.toNat
  | 4 => s.ccb.remotePort.toNat
  | 5 => s.ccb.sendSeq.toNat
  | 6 => s.ccb.sendAck.toNat
  | 7 => s.ccb.recvSeq.toNat
  | 8 => s.ccb.recvAck.toNat
  | 9 => s.ccb.sendWindow.toNat
  | 10 => s.ccb.recvWindow.toNat
  | 11 => atWidth s.params.wTs s.ccb.lastSent
  | 12 => atWidth s.params.wRtx s.ccb.retransmitCount
  | 13 => s.runEn.toNat
  | _ => 0

end Sys2Proof.Machine
end

