-- ==== Sys2Proof/Machine/Transmit.lean ====
section
/-! DEFINITION. The send path (spec 43_send_path.md): SENDSEG and the four segment kinds of spec 30_encoding.md R90. -/

namespace Sys2Proof.Machine

/-- The datagram the send path assembles (R200 to R203): both headers with their checksums, then the payload. -/
def datagramOf (c : Ccb) (ipId : U16) (flags : Byte) (payload : Buffer) : Buffer :=
  buildIpv4 payload.length ipId c.localAddr c.remoteAddr
    ++ buildTcp c.localPort c.remotePort c.sendSeq c.sendAck flags c.recvWindow c.localAddr c.remoteAddr payload
    ++ payload

/-- SENDSEG (R200): one triple is drawn; on tx_ok = 1 the datagram goes out and `send_seq` and `last_sent` are written
(R204), on tx_ok = 0 nothing is (R205). The Boolean is Sent. -/
def sendSegment (flags : Byte) (payload : Buffer) (s : State) : Bool × State :=
  let draw := (drawTransmit s).1
  let s' := (drawTransmit s).2
  if draw.txOk then
    (true, recordSend (sequenceSpace flags payload.length) draw.now
      (emit (.tx (datagramOf s.ccb draw.ipId flags payload)) s'))
  else (false, s')

/-- SENDSEG executed by itself: the result is Sent or Failed. -/
def sendAlone (flags : Byte) (payload : Buffer) (s : State) : State :=
  setResult (.sent (sendSegment flags payload s).1) (sendSegment flags payload s).2

/-- SENDSEG (R200). A payload over MAX_PAYLOAD is outside its operands (log 12). -/
def execSendseg (flags : Byte) (payload : Buffer) (s : State) : Host.Outcome State Fault Refusal :=
  if payload.length ≤ Config.maxPayload then .next (sendAlone flags payload s) else .refused .outsideDomain

/-- TX.SYN (R90, R206). -/
def execTxSyn (s : State) : Host.Outcome State Fault Refusal := .next (sendAlone synFlags [] s)

/-- TX.ACK (R90, R206). -/
def execTxAck (s : State) : Host.Outcome State Fault Refusal := .next (sendAlone ackFlags [] s)

/-- TX.FINACK (R90, R206). -/
def execTxFinack (s : State) : Host.Outcome State Fault Refusal := .next (sendAlone finAckFlags [] s)

/-- TX.PSHACK (R90, R206). A payload over MAX_PAYLOAD is outside its operands (log 12). -/
def execTxPshack (payload : Buffer) (s : State) : Host.Outcome State Fault Refusal :=
  if payload.length ≤ Config.maxPayload then .next (sendAlone pshAckFlags payload s) else .refused .outsideDomain

end Sys2Proof.Machine
end

