-- ==== Sys2Proof/Machine/Command.lean ====
section
/-! DEFINITION. The host commands (spec 45_host_commands.md). -/

namespace Sys2Proof.Machine

/-- The CCB that CONNECT writes (R251): all thirteen fields. -/
def openCcb (draw : ConnectDraw) (remoteAddr : U32) (remotePort : U16) : Ccb where
  state := .synSent
  localAddr := draw.localAddr
  localPort := draw.localPort
  remoteAddr := remoteAddr
  remotePort := remotePort
  sendSeq := draw.isn
  sendAck := 0
  recvSeq := 0
  recvAck := 0
  sendWindow := 0
  recvWindow := 65535
  lastSent := 0
  retransmitCount := 0

/-- The end of CONNECT, once the CCB is written: the SYN, and on failure back to CLOSED (R251, D23). -/
def sendSyn (s : State) : State :=
  let sent := sendSegment synFlags [] s
  if sent.1 then respondOk sent.2 else raiseStatus .sendFailed (setTcpState .closed sent.2)

/-- CONNECT from CLOSED (R251). -/
def openConnection (remoteAddr : U32) (remotePort : U16) (s : State) : State :=
  let draw := (drawConnect s).1
  let s' := (drawConnect s).2
  if draw.transportOk then sendSyn (setCcb (openCcb draw remoteAddr remotePort) s')
  else raiseStatus .transportUnavailable s'

/-- SEND in ESTABLISHED (R252). -/
def sendData (data : Buffer) (s : State) : State :=
  if data.length ≤ Config.maxPayload then
    let sent := sendSegment pshAckFlags data s
    if sent.1 then respondCount data.length sent.2 else raiseStatus .sendFailed sent.2
  else raiseStatus .payloadTooLong s

/-- CLOSE in ESTABLISHED (R253). -/
def closeActive (s : State) : State :=
  let sent := sendSegment finAckFlags [] s
  if sent.1 then respondOk (setRunEn true (setTcpState .finWait1 sent.2)) else raiseStatus .sendFailed sent.2

/-- CLOSE in any other state (R254). -/
def closeByRelease (s : State) : State := respondOk (release s)

/-- CONNECT (R251). -/
def execConnect (remoteAddr : U32) (remotePort : U16) (s : State) : Host.Outcome State Fault Refusal :=
  .next (if s.ccb.state = .closed then openConnection remoteAddr remotePort s else raiseStatus .busy s)

/-- SEND (R252). -/
def execSend (data : Buffer) (s : State) : Host.Outcome State Fault Refusal :=
  .next (if s.ccb.state = .established then sendData data s else raiseStatus .notConnected s)

/-- CLOSE.ESTABLISHED (R253). In another state the opcode 0x03 does what R254 says (log 8). -/
def execCloseEstablished (s : State) : Host.Outcome State Fault Refusal :=
  .next (if s.ccb.state = .established then closeActive s else closeByRelease s)

/-- CLOSE.RELEASE (R254). In ESTABLISHED the opcode 0x03 does what R253 says (log 8). -/
def execCloseRelease (s : State) : Host.Outcome State Fault Refusal :=
  .next (if s.ccb.state ≠ .established then closeByRelease s else closeActive s)

/-- RUN (R255). -/
def execRun (s : State) : Host.Outcome State Fault Refusal :=
  .next (respondOk (if isTerminal s.ccb.state then s else setRunEn true s))

/-- A reserved opcode (R101, R256). -/
def execCmdReserved (_opcode : Byte) (s : State) : Host.Outcome State Fault Refusal :=
  .next (raiseStatus .badCommand s)

end Sys2Proof.Machine
end

