-- ==== Sys2Proof/Machine/Segment.lean ====
section
/-! DEFINITION. The segment state machine (spec 42_state_machine.md): the rules R173 to R177 and HANDLE, which selects
among them (R171). Each rule answers an outcome and the new state; a failed send ends it there (R205). -/

namespace Sys2Proof.Machine

/-- The condition of R173: SYN and ACK both set, whatever the other bits (R172). -/
def hasSynAck (tcp : TCPHeader) : Bool := flagSet tcp.flags synMask && flagSet tcp.flags ackMask

/-- The FIN bit (R172). -/
def hasFin (tcp : TCPHeader) : Bool := flagSet tcp.flags finMask

/-- The ACK bit (R172). -/
def hasAck (tcp : TCPHeader) : Bool := flagSet tcp.flags ackMask

/-- The CCB writes of R173, before its ACK. -/
def acceptSynAck (tcp : TCPHeader) (s : State) : State :=
  { s with ccb := { s.ccb with
      recvSeq := seqAdd tcp.seq 1, sendAck := seqAdd tcp.seq 1, recvAck := tcp.ack, state := .established } }

/-- R173: completion of the active open, then a pure ACK. -/
def ruleSynAck (tcp : TCPHeader) (s : State) : HandleOutcome × State :=
  let sent := sendSegment ackFlags [] (acceptSynAck tcp s)
  (if sent.1 then .handled else .abortSendFailed, sent.2)

/-- R174: inbound data. The payload is delivered after its ACK, and not at all if the ACK fails. -/
def ruleData (payload : Buffer) (s : State) : HandleOutcome × State :=
  let sent := sendSegment ackFlags [] (advanceReceive payload.length s)
  if sent.1 then (.handled, emit (.sink payload) sent.2) else (.abortSendFailed, sent.2)

/-- R175: the peer closes. CLOSE_WAIT, an ACK for the FIN, our FIN+ACK, LAST_ACK. -/
def ruleFin (s : State) : HandleOutcome × State :=
  let first := sendSegment ackFlags [] (setTcpState .closeWait (advanceReceive 1 s))
  if first.1 then
    let second := sendSegment finAckFlags [] first.2
    if second.1 then (.handled, setTcpState .lastAck second.2) else (.abortSendFailed, second.2)
  else (.abortSendFailed, first.2)

/-- R176: the peer acknowledges our FIN. -/
def ruleLastAck (s : State) : HandleOutcome × State := (.handled, setTcpState .closed s)

/-- R177: ignore, no transition. -/
def ruleIgnore (s : State) : HandleOutcome × State := (.ignored, s)

/-- The ESTABLISHED arm of R171: data first, then FIN (R178); a failed send in the first keeps the second from
running. -/
def handleEstablished (tcp : TCPHeader) (payload : Buffer) (s : State) : HandleOutcome × State :=
  let data := if payload.isEmpty then ruleIgnore s else ruleData payload s
  if data.1 = .abortSendFailed then data
  else if hasFin tcp then ruleFin data.2
  else data

/-- HANDLE (R171), total over the eleven states, all flags bytes and all payloads (R180). -/
def handleSegment (tcp : TCPHeader) (payload : Buffer) (s : State) : HandleOutcome × State :=
  match s.ccb.state with
  | .synSent => if hasSynAck tcp then ruleSynAck tcp s else ruleIgnore s
  | .established => handleEstablished tcp payload s
  | .lastAck => if hasAck tcp then ruleLastAck s else ruleIgnore s
  | .closed => ruleIgnore s
  | .listen => ruleIgnore s
  | .synReceived => ruleIgnore s
  | .finWait1 => ruleIgnore s
  | .finWait2 => ruleIgnore s
  | .closeWait => ruleIgnore s
  | .closing => ruleIgnore s
  | .timeWait => ruleIgnore s

/-- A rule executed by itself: its outcome is the result. `run_en` is the dispatcher's to clear (R176, R221; log 10). -/
def outcomeAlone (ran : HandleOutcome × State) : State := setResult (.outcome ran.1) ran.2

/-- RX.SYNSENT.SYNACK (R173): where its condition does not hold, the segment is ignored (R171; log 9). -/
def execRxSynsentSynack (tcp : TCPHeader) (_payload : Buffer) (s : State) : Host.Outcome State Fault Refusal :=
  .next (outcomeAlone (if s.ccb.state = .synSent && hasSynAck tcp then ruleSynAck tcp s else ruleIgnore s))

/-- RX.EST.DATA (R174): where its condition does not hold, the segment is ignored (R171; log 9). -/
def execRxEstData (_tcp : TCPHeader) (payload : Buffer) (s : State) : Host.Outcome State Fault Refusal :=
  .next (outcomeAlone
    (if s.ccb.state = .established && !payload.isEmpty then ruleData payload s else ruleIgnore s))

/-- RX.EST.FIN (R175): where its condition does not hold, the segment is ignored (R171; log 9). -/
def execRxEstFin (tcp : TCPHeader) (_payload : Buffer) (s : State) : Host.Outcome State Fault Refusal :=
  .next (outcomeAlone (if s.ccb.state = .established && hasFin tcp then ruleFin s else ruleIgnore s))

/-- RX.LASTACK.ACK (R176): where its condition does not hold, the segment is ignored (R171; log 9). -/
def execRxLastackAck (tcp : TCPHeader) (_payload : Buffer) (s : State) : Host.Outcome State Fault Refusal :=
  .next (outcomeAlone (if s.ccb.state = .lastAck && hasAck tcp then ruleLastAck s else ruleIgnore s))

/-- RX.IGNORE (R177): no transition, no output. -/
def execRxIgnore (_tcp : TCPHeader) (_payload : Buffer) (s : State) : Host.Outcome State Fault Refusal :=
  .next (outcomeAlone (ruleIgnore s))

/-- HANDLE (R171). -/
def execHandle (tcp : TCPHeader) (payload : Buffer) (s : State) : Host.Outcome State Fault Refusal :=
  .next (outcomeAlone (handleSegment tcp payload s))

end Sys2Proof.Machine
end

