-- ==== Sys2Proof/Machine/Receive.lean ====
section
/-! DEFINITION. The receive dispatcher, the 4-tuple filter and the events (spec 44_dispatch_filter.md,
70_reset_and_hazards.md R300). -/

namespace Sys2Proof.Machine

/-- FILTER.IP against a CCB (R223, R224): protocol first, then addresses. `none` passes. -/
def filterIp (ip : IPv4Header) (c : Ccb) : Option Verdict :=
  if ip.protocol ≠ 6 then some .dropNotTcp
  else if ip.src ≠ c.remoteAddr ∨ ip.dst ≠ c.localAddr then some .dropAddr
  else none

/-- FILTER.PORT against a CCB (R226). `none` passes. -/
def filterPort (tcp : TCPHeader) (c : Ccb) : Option Verdict :=
  if tcp.srcPort ≠ c.remotePort ∨ tcp.dstPort ≠ c.localPort then some .dropPort else none

/-- The port stage and the payload of R221, once the TCP header is located (R226, R227). -/
def receiveTcp (c : Ccb) (ip : IPv4Header) (B : Buffer) : Except Verdict (TCPHeader × Buffer) :=
  let tcp := tcpOf ip B
  match filterPort tcp c with
  | some v => .error v
  | none => if tcp.doff.toNat < 5 then .error .dropMalformed else .ok (tcp, payloadOf ip tcp B)

/-- R221 up to HANDLE: decode with the filter interleaved, in the order of R221 and R274. Either the verdict of a drop,
or the segment and payload for the state machine. -/
def receive (c : Ccb) (B : Buffer) : Except Verdict (TCPHeader × Buffer) :=
  if B.length < 40 then .error .dropMalformed
  else
    let ip := unpackIpv4 (slice B 0 20)
    match filterIp ip c with
    | some v => .error v
    | none => if tcpInBounds ip B then receiveTcp c ip B else .error .dropMalformed

/-- The end of R221, after HANDLE: a failed send stops the dispatcher (R205), so does a terminal state (R229); then the
verdict. -/
def finishSegment (ran : HandleOutcome × State) : State :=
  giveVerdict (verdictOf ran.1)
    (endLoopIfTerminal (if ran.1 = .abortSendFailed then setRunEn false ran.2 else ran.2))

/-- The whole of RX_DATAGRAM (R221). -/
def receiveDatagram (B : Buffer) (s : State) : State :=
  match receive s.ccb B with
  | .error v => giveVerdict v s
  | .ok (tcp, payload) => finishSegment (handleSegment tcp payload s)

/-- FILTER.IP (R223, R224). -/
def execFilterIp (ip : IPv4Header) (s : State) : Host.Outcome State Fault Refusal :=
  .next (setResult (.filter (filterIp ip s.ccb)) s)

/-- FILTER.PORT (R226). -/
def execFilterPort (tcp : TCPHeader) (s : State) : Host.Outcome State Fault Refusal :=
  .next (setResult (.filter (filterPort tcp s.ccb)) s)

/-- RX_DATAGRAM (R221). While run_en = 0 the event has no step (R220; log 11). -/
def execRxDatagram (B : Buffer) (s : State) : Host.Outcome State Fault Refusal :=
  if s.runEn then .next (receiveDatagram B s) else .refused .rxNotTaken

/-- RX_TIMEOUT (R231). While run_en = 0 the event has no step (R220; log 11). -/
def execRxTimeout (s : State) : Host.Outcome State Fault Refusal :=
  if s.runEn then .next (giveVerdict .timeout s) else .refused .rxNotTaken

/-- RX_ERROR (R232). While run_en = 0 the event has no step (R220; log 11). -/
def execRxError (s : State) : Host.Outcome State Fault Refusal :=
  if s.runEn then .next (giveVerdict .recvFailed (setRunEn false s)) else .refused .rxNotTaken

/-- RESET (R300, R301): every CCB field and run_en to 0; nothing is put out. The ports are the environment's. -/
def execReset (s : State) : Host.Outcome State Fault Refusal := .next (setRunEn false (setCcb Ccb.zero s))

end Sys2Proof.Machine
end

