-- ==== Sys2Proof/Machine/Units.lean ====
section
/-! DEFINITION. The checksum unit and the header codec executed by themselves (spec 40_checksum.md, 41_codec.md): pure
functions of their operands, whose value is left in `result` (log 6). They read and write no state of the engine. -/

namespace Sys2Proof.Machine

/-- OCSUM (R120). -/
def execOcsum (B : Buffer) (s : State) : Host.Outcome State Fault Refusal :=
  .next (setResult (.word (onesSum B)) s)

/-- CSUM (R122). -/
def execCsum (B : Buffer) (s : State) : Host.Outcome State Fault Refusal :=
  .next (setResult (.word (internetChecksum B)) s)

/-- CSUMOK (R124). -/
def execCsumok (B : Buffer) (s : State) : Host.Outcome State Fault Refusal :=
  .next (setResult (.bit (checksumOk B)) s)

/-- TCPCSUM (R125): defined for a 20-byte header and a payload whose segment length is a u16 (D37; log 12). -/
def execTcpcsum (header : Buffer) (srcIp dstIp : U32) (payload : Buffer) (s : State) :
    Host.Outcome State Fault Refusal :=
  if header.length = 20 ∧ payload.length ≤ Config.maxTcpPayload then
    .next (setResult (.word (tcpChecksum header srcIp dstIp payload)) s)
  else .refused .outsideDomain

/-- PACK.IPV4 (R141). -/
def execPackIpv4 (h : IPv4Header) (s : State) : Host.Outcome State Fault Refusal :=
  .next (setResult (.buffer (packIpv4 h)) s)

/-- DEC.IPV4 (R142): defined for a buffer of at least 20 bytes (log 12). -/
def execDecIpv4 (B : Buffer) (s : State) : Host.Outcome State Fault Refusal :=
  if 20 ≤ B.length then .next (setResult (.ipv4 (unpackIpv4 B)) s) else .fault .readPastBuffer

/-- ENC.IPV4 (R143): defined for a payload length of at most MAX_PAYLOAD (log 12). -/
def execEncIpv4 (plen : Nat) (ipId : U16) (src dst : U32) (s : State) : Host.Outcome State Fault Refusal :=
  if plen ≤ Config.maxPayload then .next (setResult (.buffer (buildIpv4 plen ipId src dst)) s)
  else .refused .outsideDomain

/-- PACK.TCP (R145). -/
def execPackTcp (t : TCPHeader) (s : State) : Host.Outcome State Fault Refusal :=
  .next (setResult (.buffer (packTcp t)) s)

/-- DEC.TCP (R146): defined for a buffer of at least 20 bytes (log 12). -/
def execDecTcp (T : Buffer) (s : State) : Host.Outcome State Fault Refusal :=
  if 20 ≤ T.length then .next (setResult (.tcp (unpackTcp T)) s) else .fault .readPastBuffer

/-- ENC.TCP (R147): defined for a payload TCPCSUM is defined for (R125; log 12). -/
def execEncTcp (sp dp : U16) (seq ack : U32) (flags : Byte) (window : U16) (srcIp dstIp : U32) (payload : Buffer)
    (s : State) : Host.Outcome State Fault Refusal :=
  if payload.length ≤ Config.maxTcpPayload then
    .next (setResult (.buffer (buildTcp sp dp seq ack flags window srcIp dstIp payload)) s)
  else .refused .outsideDomain

/-- PSEUDO (R87): defined for a payload whose segment length is a u16 (log 12). -/
def execPseudo (srcIp dstIp : U32) (plen : Nat) (s : State) : Host.Outcome State Fault Refusal :=
  if plen ≤ Config.maxTcpPayload then .next (setResult (.buffer (pseudoHeader srcIp dstIp plen)) s)
  else .refused .outsideDomain

/-- DEC.DGRAM (R150, R151): any buffer; Malformed is a result, not a stop. -/
def execDecDgram (B : Buffer) (s : State) : Host.Outcome State Fault Refusal :=
  .next (setResult (.dgram (decodeDatagram B)) s)

end Sys2Proof.Machine
end

