-- ==== Sys2Proof/Machine/Dispatch.lean ====
section
/-! DEFINITION. The meaning of each operation, one arm a constructor. -/

namespace Sys2Proof.Machine

/-- What executing an operation does to a state. -/
def exec (i : Instr) (s : State) : Host.Outcome State Fault Refusal :=
  match i with
  | .connect remoteAddr remotePort => Sys2Proof.Machine.execConnect remoteAddr remotePort s
  | .send data => Sys2Proof.Machine.execSend data s
  | .closeEstablished => Sys2Proof.Machine.execCloseEstablished s
  | .closeRelease => Sys2Proof.Machine.execCloseRelease s
  | .run => Sys2Proof.Machine.execRun s
  | .cmdReserved opcode => Sys2Proof.Machine.execCmdReserved opcode s
  | .txSyn => Sys2Proof.Machine.execTxSyn s
  | .txAck => Sys2Proof.Machine.execTxAck s
  | .txFinack => Sys2Proof.Machine.execTxFinack s
  | .txPshack payload => Sys2Proof.Machine.execTxPshack payload s
  | .rxSynsentSynack tcp payload => Sys2Proof.Machine.execRxSynsentSynack tcp payload s
  | .rxEstData tcp payload => Sys2Proof.Machine.execRxEstData tcp payload s
  | .rxEstFin tcp payload => Sys2Proof.Machine.execRxEstFin tcp payload s
  | .rxLastackAck tcp payload => Sys2Proof.Machine.execRxLastackAck tcp payload s
  | .rxIgnore tcp payload => Sys2Proof.Machine.execRxIgnore tcp payload s
  | .packIpv4 header => Sys2Proof.Machine.execPackIpv4 header s
  | .decIpv4 buffer => Sys2Proof.Machine.execDecIpv4 buffer s
  | .encIpv4 plen ipId src dst => Sys2Proof.Machine.execEncIpv4 plen ipId src dst s
  | .packTcp header => Sys2Proof.Machine.execPackTcp header s
  | .decTcp buffer => Sys2Proof.Machine.execDecTcp buffer s
  | .encTcp sp dp seq ack flags window srcIp dstIp payload => Sys2Proof.Machine.execEncTcp sp dp seq ack flags window srcIp dstIp payload s
  | .pseudo srcIp dstIp plen => Sys2Proof.Machine.execPseudo srcIp dstIp plen s
  | .ocsum buffer => Sys2Proof.Machine.execOcsum buffer s
  | .csum buffer => Sys2Proof.Machine.execCsum buffer s
  | .csumok buffer => Sys2Proof.Machine.execCsumok buffer s
  | .tcpcsum header srcIp dstIp payload => Sys2Proof.Machine.execTcpcsum header srcIp dstIp payload s
  | .decDgram buffer => Sys2Proof.Machine.execDecDgram buffer s
  | .filterIp ip => Sys2Proof.Machine.execFilterIp ip s
  | .filterPort tcp => Sys2Proof.Machine.execFilterPort tcp s
  | .handle tcp payload => Sys2Proof.Machine.execHandle tcp payload s
  | .sendseg flags payload => Sys2Proof.Machine.execSendseg flags payload s
  | .rxDatagram buffer => Sys2Proof.Machine.execRxDatagram buffer s
  | .rxTimeout => Sys2Proof.Machine.execRxTimeout s
  | .rxError => Sys2Proof.Machine.execRxError s
  | .reset => Sys2Proof.Machine.execReset s

end Sys2Proof.Machine
end

