-- ==== Sys2Proof/WellFormed.lean ====
section
/-! DEFINITION. Which operations are well formed: the operands lie in the domain the operation's rule gives them. -/

namespace Sys2Proof

/-- The operand domain of each operation. A command is well formed with any operands (an over-long SEND is answered
PayloadTooLong, R252); a reserved-opcode command is one whose opcode is not 0x01 to 0x04 (R101); buffers given to the
field decoders hold at least 20 bytes (R142, R146); a segment's payload leaves room for its length fields (R125, R143,
R200), and only TX.PSHACK carries one (R90, R200); ENC.TCP sets none of CWR, ECE, URG, RST (R102, its row of the table); a
receive class is given a segment its mask and match admit (R91); an RX datagram is at most MAX_RX_LEN bytes, an OPEN
parameter (R8, R62). -/
def wellFormed (params : OpenParams) : Instr → Bool
  | .connect _ _ => true
  | .send _ => true
  | .closeEstablished => true
  | .closeRelease => true
  | .run => true
  | .cmdReserved opcode => opcode != 1 && opcode != 2 && opcode != 3 && opcode != 4
  | .txSyn => true
  | .txAck => true
  | .txFinack => true
  | .txPshack payload => decide (payload.length ≤ Config.maxPayload)
  | .rxSynsentSynack tcp _ => tcp.flags &&& 0x12 == 0x12
  | .rxEstData _ payload => !payload.isEmpty
  | .rxEstFin tcp _ => tcp.flags &&& 0x01 == 0x01
  | .rxLastackAck tcp _ => tcp.flags &&& 0x10 == 0x10
  | .rxIgnore _ _ => true
  | .packIpv4 _ => true
  | .decIpv4 buffer => decide (20 ≤ buffer.length)
  | .encIpv4 plen _ _ _ => decide (plen ≤ Config.maxPayload)
  | .packTcp _ => true
  | .decTcp buffer => decide (20 ≤ buffer.length)
  | .encTcp _ _ _ _ flags _ _ _ payload =>
    flags &&& 0xE4 == 0x00 && decide (payload.length ≤ Config.maxTcpPayload)
  | .pseudo _ _ plen => decide (plen ≤ Config.maxTcpPayload)
  | .ocsum _ => true
  | .csum _ => true
  | .csumok _ => true
  | .tcpcsum header _ _ payload => decide (header.length = 20) && decide (payload.length ≤ Config.maxTcpPayload)
  | .decDgram _ => true
  | .filterIp _ => true
  | .filterPort _ => true
  | .handle _ _ => true
  | .sendseg flags payload =>
    (flags == 0x02 || flags == 0x10 || flags == 0x11 || flags == 0x18) &&
      decide (payload.length ≤ Config.maxPayload) && (payload.isEmpty || flags == 0x18)
  | .rxDatagram buffer => decide (buffer.length ≤ params.maxRxLen)
  | .rxTimeout => true
  | .rxError => true
  | .reset => true

end Sys2Proof
end

