-- ==== Sys2Proof/Decode.lean ====
section
/-! DEFINITION. What selects an operation, and with which operands (spec 30_encoding.md R90, R91, R100, R101, R105): a
command opcode, the flags byte of a segment, or a header image given to the codec. After the decoder, the encoder. -/

namespace Sys2Proof

open Sys2Proof.Machine

/-- What is presented to the engine or to one of its units. The header images carry the operation that is invoked on
them, since the formats IPV4HDR and TCPHDR serve three rows each (R105). -/
inductive Presented where
  /-- A command on the command port (format CMD8). -/
  | command (word : CommandWord)
  /-- The flags byte handed to the send path, with its payload (format TCPFLAGS8, R90). -/
  | transmit (flags : Byte) (payload : Buffer)
  /-- The TCP header of a received segment, with its payload (format TCPFLAGS8 at byte 13, R91). -/
  | segment (header : Buffer) (payload : Buffer)
  /-- The image PACK.IPV4 makes of a record (format IPV4HDR). -/
  | packedIpv4 (image : Buffer)
  /-- The buffer given to DEC.IPV4 (format IPV4HDR). -/
  | receivedIpv4 (image : Buffer)
  /-- The header ENC.IPV4 builds (format IPV4HDR). -/
  | builtIpv4 (image : Buffer)
  /-- The image PACK.TCP makes of a record (format TCPHDR). -/
  | packedTcp (image : Buffer)
  /-- The buffer given to DEC.TCP (format TCPHDR). -/
  | receivedTcp (image : Buffer)
  /-- The header ENC.TCP builds for a payload between two addresses (format TCPHDR). -/
  | builtTcp (image : Buffer) (srcIp dstIp : U32) (payload : Buffer)
  /-- A pseudo-header (format PSEUDOHDR). -/
  | pseudoImage (image : Buffer)
  deriving DecidableEq, Repr

/-- Why something presented is no operation. -/
inductive DecodeError where
  /-- The flags byte is none of the four the engine transmits (R90). -/
  | unknownTransmitKind
  /-- A payload on a kind other than TX.PSHACK, or one too long for the total length field (R90, R200). -/
  | payloadNotAllowed
  /-- A header image that has not the length of its format (R80). -/
  | wrongLength
  /-- A fixed bit of the row's encoding, or a checksum the row computes, has another value (R83, R86, R87). -/
  | fixedFieldWrong
  deriving DecidableEq, Repr

/-- The command port: the 8-bit opcode selects the row, and for CLOSE the protocol state does (R100, R101, R105,
R253, R254). Every opcode selects an operation, so nothing is rejected here. -/
def decodeCommand (st : TcpState) (word : CommandWord) : Instr :=
  if word.opcode = 0x01 then .connect word.remoteAddr word.remotePort
  else if word.opcode = 0x02 then .send word.data
  else if word.opcode = 0x03 then (if st = .established then .closeEstablished else .closeRelease)
  else if word.opcode = 0x04 then .run
  else .cmdReserved word.opcode

/-- One outcome of the RX port selects its event (R62, R100). -/
def decodeRxOutcome : RxOutcome → Instr
  | .datagram B => .rxDatagram B
  | .timeout => .rxTimeout
  | .error => .rxError

/-- The send path: one of the four flags bytes (R90). -/
def decodeTransmit (flags : Byte) (payload : Buffer) : Except DecodeError Instr :=
  if flags = synFlags then (if payload.isEmpty then .ok .txSyn else .error .payloadNotAllowed)
  else if flags = ackFlags then (if payload.isEmpty then .ok .txAck else .error .payloadNotAllowed)
  else if flags = finAckFlags then (if payload.isEmpty then .ok .txFinack else .error .payloadNotAllowed)
  else if flags = pshAckFlags then
    (if payload.length ≤ Config.maxPayload then .ok (.txPshack payload) else .error .payloadNotAllowed)
  else .error .unknownTransmitKind

/-- `flags & mask == match`, the test of a receive class (R91). -/
def classMatch (flags mask pattern : Byte) : Bool := flags &&& mask == pattern

/-- The receive classes other than RX.IGNORE that hold for a segment, in the order they run (R91, R178). -/
def actingClasses (st : TcpState) (tcp : TCPHeader) (payload : Buffer) : List Instr :=
  (if st = .synSent && classMatch tcp.flags 0x12 0x12 then [.rxSynsentSynack tcp payload] else [])
    ++ (if st = .established && classMatch tcp.flags 0x00 0x00 && !payload.isEmpty then [.rxEstData tcp payload] else [])
    ++ (if st = .established && classMatch tcp.flags 0x01 0x01 then [.rxEstFin tcp payload] else [])
    ++ (if st = .lastAck && classMatch tcp.flags 0x10 0x10 then [.rxLastackAck tcp payload] else [])

/-- The receive classes of a segment: RX.IGNORE when none of the four others holds (R91). -/
def decodeSegment (st : TcpState) (tcp : TCPHeader) (payload : Buffer) : List Instr :=
  if (actingClasses st tcp payload).isEmpty then [.rxIgnore tcp payload] else actingClasses st tcp payload

/-- The header of row ENC.IPV4: rebuilt from its four letter fields, it must come out as it stands (R83, R143). -/
def decodeBuiltIpv4 (image : Buffer) : Except DecodeError Instr :=
  let h := unpackIpv4 image
  let plen := h.totalLength.toNat - 40
  if buildIpv4 plen h.identification h.src h.dst = image then .ok (.encIpv4 plen h.identification h.src h.dst)
  else .error .fixedFieldWrong

/-- The header of row ENC.TCP: rebuilt from its letter fields, it must come out as it stands (R86, R147). -/
def decodeBuiltTcp (image : Buffer) (srcIp dstIp : U32) (payload : Buffer) : Except DecodeError Instr :=
  let t := unpackTcp image
  if buildTcp t.srcPort t.dstPort t.seq t.ack t.flags t.window srcIp dstIp payload = image then
    .ok (.encTcp t.srcPort t.dstPort t.seq t.ack t.flags t.window srcIp dstIp payload)
  else .error .fixedFieldWrong

/-- The pseudo-header: rebuilt from its letter fields, it must come out as it stands (R87). -/
def decodePseudo (image : Buffer) : Except DecodeError Instr :=
  let plen := (be16 image 10).toNat - 20
  if pseudoHeader (be32 image 0) (be32 image 4) plen = image then
    .ok (.pseudo (be32 image 0) (be32 image 4) plen)
  else .error .fixedFieldWrong

/-- An image of exactly twenty bytes, the length of both header formats (R80). -/
def ofTwentyBytes (image : Buffer) (result : Except DecodeError (List Instr)) : Except DecodeError (List Instr) :=
  if image.length = 20 then result else .error .wrongLength

/-- A decoder's one operation, as a list. -/
def oneOf : Except DecodeError Instr → Except DecodeError (List Instr)
  | .ok i => .ok [i]
  | .error e => .error e

/-- The decoder, total: the operations that what is presented selects in protocol state `st`, in the order they run
(more than one only for a segment with payload and FIN in ESTABLISHED, R178), or why there is none. -/
def decode (st : TcpState) : Presented → Except DecodeError (List Instr)
  | .command word => .ok [decodeCommand st word]
  | .transmit flags payload => oneOf (decodeTransmit flags payload)
  | .segment header payload => ofTwentyBytes header (.ok (decodeSegment st (unpackTcp header) payload))
  | .packedIpv4 image => ofTwentyBytes image (.ok [.packIpv4 (unpackIpv4 image)])
  | .receivedIpv4 image => if 20 ≤ image.length then .ok [.decIpv4 image] else .error .wrongLength
  | .builtIpv4 image => ofTwentyBytes image (oneOf (decodeBuiltIpv4 image))
  | .packedTcp image => ofTwentyBytes image (.ok [.packTcp (unpackTcp image)])
  | .receivedTcp image => if 20 ≤ image.length then .ok [.decTcp image] else .error .wrongLength
  | .builtTcp image srcIp dstIp payload => ofTwentyBytes image (oneOf (decodeBuiltTcp image srcIp dstIp payload))
  | .pseudoImage image => if image.length = 12 then oneOf (decodePseudo image) else .error .wrongLength

/-- A command word with the given opcode and no operand. -/
def bareCommand (opcode : Byte) : CommandWord where
  opcode := opcode
  remoteAddr := 0
  remotePort := 0
  data := []

/-- The encoder: what is presented to select an operation, from the table's encodings; `none` for the rows whose
encoding is "none" (R105). -/
def encode : Instr → Option Presented
  | .connect remoteAddr remotePort =>
    some (.command { bareCommand 0x01 with remoteAddr := remoteAddr, remotePort := remotePort })
  | .send data => some (.command { bareCommand 0x02 with data := data })
  | .closeEstablished => some (.command (bareCommand 0x03))
  | .closeRelease => some (.command (bareCommand 0x03))
  | .run => some (.command (bareCommand 0x04))
  | .cmdReserved opcode => some (.command (bareCommand opcode))
  | .txSyn => some (.transmit 0x02 [])
  | .txAck => some (.transmit 0x10 [])
  | .txFinack => some (.transmit 0x11 [])
  | .txPshack payload => some (.transmit 0x18 payload)
  | .rxSynsentSynack tcp payload => some (.segment (packTcp tcp) payload)
  | .rxEstData tcp payload => some (.segment (packTcp tcp) payload)
  | .rxEstFin tcp payload => some (.segment (packTcp tcp) payload)
  | .rxLastackAck tcp payload => some (.segment (packTcp tcp) payload)
  | .rxIgnore tcp payload => some (.segment (packTcp tcp) payload)
  | .packIpv4 header => some (.packedIpv4 (packIpv4 header))
  | .decIpv4 buffer => some (.receivedIpv4 buffer)
  | .encIpv4 plen ipId src dst => some (.builtIpv4 (buildIpv4 plen ipId src dst))
  | .packTcp header => some (.packedTcp (packTcp header))
  | .decTcp buffer => some (.receivedTcp buffer)
  | .encTcp sp dp seq ack flags window srcIp dstIp payload =>
    some (.builtTcp (buildTcp sp dp seq ack flags window srcIp dstIp payload) srcIp dstIp payload)
  | .pseudo srcIp dstIp plen => some (.pseudoImage (pseudoHeader srcIp dstIp plen))
  | .ocsum _ => none
  | .csum _ => none
  | .csumok _ => none
  | .tcpcsum _ _ _ _ => none
  | .decDgram _ => none
  | .filterIp _ => none
  | .filterPort _ => none
  | .handle _ _ => none
  | .sendseg _ _ => none
  | .rxDatagram _ => none
  | .rxTimeout => none
  | .rxError => none
  | .reset => none

/-- Whether protocol state `st` selects the operation among those that share its words: the two CLOSE rows (R253, R254)
and the receive classes (R91). -/
def rowSelected (st : TcpState) : Instr → Bool
  | .closeEstablished => st == .established
  | .closeRelease => st != .established
  | .rxSynsentSynack _ _ => st == .synSent
  | .rxEstData _ _ => st == .established
  | .rxEstFin _ _ => st == .established
  | .rxLastackAck _ _ => st == .lastAck
  | .rxIgnore tcp payload => (actingClasses st tcp payload).isEmpty
  | .connect _ _ => true
  | .send _ => true
  | .run => true
  | .cmdReserved _ => true
  | .txSyn => true
  | .txAck => true
  | .txFinack => true
  | .txPshack _ => true
  | .packIpv4 _ => true
  | .decIpv4 _ => true
  | .encIpv4 _ _ _ _ => true
  | .packTcp _ => true
  | .decTcp _ => true
  | .encTcp _ _ _ _ _ _ _ _ _ => true
  | .pseudo _ _ _ => true
  | .ocsum _ => true
  | .csum _ => true
  | .csumok _ => true
  | .tcpcsum _ _ _ _ => true
  | .decDgram _ => true
  | .filterIp _ => true
  | .filterPort _ => true
  | .handle _ _ => true
  | .sendseg _ _ => true
  | .rxDatagram _ => true
  | .rxTimeout => true
  | .rxError => true
  | .reset => true

/-- The bits of the table's row, byte 0 first: the opcode, the flags byte, or the header image (R105). -/
def rowBytes : Presented → Buffer
  | .command word => [word.opcode]
  | .transmit flags _ => [flags]
  | .segment header _ => [byteAt header 13]
  | .packedIpv4 image => image
  | .receivedIpv4 image => image.take 20
  | .builtIpv4 image => image
  | .packedTcp image => image
  | .receivedTcp image => image.take 20
  | .builtTcp image _ _ _ => image
  | .pseudoImage image => image

/-- One byte of a row of the table: the bits that are fixed, and their values. -/
abbrev RowByte := Byte × Byte

/-- A byte of letter fields only. -/
def letters : RowByte := (0x00, 0x00)

/-- A byte whose eight bits are fixed. -/
def fixed (value : Byte) : RowByte := (0xFF, value)

/-- The row of spec/opcode_table.json for each operation, as one (mask, match) pair a byte; `none` where the table's
encoding is "none". -/
def tableRow : Instr → Option (List RowByte)
  | .connect _ _ => some [fixed 0x01]
  | .send _ => some [fixed 0x02]
  | .closeEstablished => some [fixed 0x03]
  | .closeRelease => some [fixed 0x03]
  | .run => some [fixed 0x04]
  | .cmdReserved _ => some [letters]
  | .txSyn => some [fixed 0x02]
  | .txAck => some [fixed 0x10]
  | .txFinack => some [fixed 0x11]
  | .txPshack _ => some [fixed 0x18]
  | .rxSynsentSynack _ _ => some [(0x12, 0x12)]
  | .rxEstData _ _ => some [(0x00, 0x00)]
  | .rxEstFin _ _ => some [(0x01, 0x01)]
  | .rxLastackAck _ _ => some [(0x10, 0x10)]
  | .rxIgnore _ _ => some [letters]
  | .packIpv4 _ => some (List.replicate 20 letters)
  | .decIpv4 _ => some (List.replicate 20 letters)
  | .encIpv4 _ _ _ _ =>
    some ([fixed 0x45, fixed 0x00] ++ List.replicate 4 letters ++ [fixed 0x00, fixed 0x00, fixed 0x40, fixed 0x06]
      ++ List.replicate 10 letters)
  | .packTcp _ => some (List.replicate 20 letters)
  | .decTcp _ => some (List.replicate 20 letters)
  | .encTcp _ _ _ _ _ _ _ _ _ =>
    some (List.replicate 12 letters ++ [fixed 0x50, (0xE4, 0x00)] ++ List.replicate 4 letters
      ++ [fixed 0x00, fixed 0x00])
  | .pseudo _ _ _ => some (List.replicate 8 letters ++ [fixed 0x00, fixed 0x06] ++ List.replicate 2 letters)
  | .ocsum _ => none
  | .csum _ => none
  | .csumok _ => none
  | .tcpcsum _ _ _ _ => none
  | .decDgram _ => none
  | .filterIp _ => none
  | .filterPort _ => none
  | .handle _ _ => none
  | .sendseg _ _ => none
  | .rxDatagram _ => none
  | .rxTimeout => none
  | .rxError => none
  | .reset => none

/-- Whether the bytes have the row's length and its fixed bits. -/
def fitsRow : List RowByte → Buffer → Bool
  | [], [] => true
  | (mask, pattern) :: row, b :: bytes => b &&& mask == pattern && fitsRow row bytes
  | _, _ => false

/-- The command word whose table bits are `w`: the opcode is the one byte a CMD8 row has, the operands are zeros. -/
def tableCommand (w : Nat) : CommandWord := bareCommand (BitVec.ofNat 8 w)

/-- The operation the decoder reads from an instruction word of the table. The only words the engine itself takes are
the 8-bit opcodes of the command port, in the protocol state after reset (log 7); a word of another width selects
nothing by itself (R100). -/
def decodeTableWord (nbits w : Nat) : Option Instr :=
  if nbits = 8 ∧ w < 256 then some (decodeCommand .closed (tableCommand w)) else none

end Sys2Proof
end

