-- ==== Sys2Proof/Machine/Fetch.lean ====
section
/-! DEFINITION. Which operation the engine takes next (spec 20_memory.md R66, R72, R73; 44_dispatch_filter.md R220;
60_exceptions.md R273, R274). -/

namespace Sys2Proof.Machine

/-- The RX outcomes the engine may take: none while run_en = 0 (R220). They stay with the transport meanwhile. -/
def takeableRx (s : State) : List RxOutcome := if s.runEn then s.rxPort else []

/-- Take the next command: the operation its opcode selects in the present protocol state. -/
def takeCommand (word : CommandWord) (rest : List CommandWord) (s : State) : Option Instr × State :=
  (some (decodeCommand s.ccb.state word), { s with cmdPort := rest })

/-- Take the next RX outcome: the event it selects. -/
def takeRx (outcome : RxOutcome) (rest : List RxOutcome) (s : State) : Option Instr × State :=
  (some (decodeRxOutcome outcome), { s with rxPort := rest })

/-- The choice at a step boundary, RESET apart: whatever is pending; of a command and an RX outcome, the one the
boundary's sample puts first (D34); nothing when nothing is pending. -/
def choose (commandFirst : Bool) (s : State) : Option Instr × State :=
  match s.cmdPort, takeableRx s with
  | [], [] => (none, s)
  | word :: rest, [] => takeCommand word rest s
  | [], outcome :: rest => takeRx outcome rest s
  | word :: words, outcome :: outcomes =>
    if commandFirst then takeCommand word words s else takeRx outcome outcomes s

/-- The operation of the next step, if any, and the state with what selected it taken off its port. RESET wins over a
pending command and a pending RX outcome (R274). -/
def fetch (s : State) : Option Instr × State :=
  if (drawBoundary s).1.reset then (some .reset, (drawBoundary s).2)
  else choose (drawBoundary s).1.commandFirst (drawBoundary s).2

end Sys2Proof.Machine
end

