-- ==== Sys2Proof/Machine/Step.lean ====
section
/-! DEFINITION. One step (spec 00_scope.md R13), and how an instruction word is placed for it. -/

namespace Sys2Proof.Machine

/-- One step: take the next operation and execute it. With nothing to take, the engine idles (R73, R301; log 18). An
operation whose operands the environment never presents, an RX datagram longer than MAX_RX_LEN, has no step (R62;
log 13). -/
def step (s : State) : Host.Outcome State Fault Refusal :=
  match fetch s with
  | (none, s') => .next s'
  | (some i, s') => if wellFormed s.params i then exec i s' else .refused .notPresented

/-- `s` with the command whose opcode is the word `w` presented first on the command port, at a boundary where the
reset input is low and a command is taken before an RX outcome (log 7). A word that is no 8-bit opcode is not
placed. -/
def State.withFetchWord (s : State) (nbits w : Nat) : State :=
  if nbits = 8 ∧ w < 256 then
    { s with
      cmdPort := tableCommand w :: s.cmdPort
      boundaries := { reset := false, commandFirst := true } :: s.boundaries }
  else s

end Sys2Proof.Machine
end

