-- ==== Sys2Proof/Safety.lean ====
section
/-! DEFINITION. What counts as a sound state and a sound run, in the words the statements use: the spec's invariants
(spec 10_state.md R25, R27 to R30; 40_checksum.md R128; 43_send_path.md R206) and its table of transitions (R24). -/

namespace Sys2Proof.Safety

open Sys2Proof.Machine

/-- "`run_en = 1` implies `ccb.state` is neither `CLOSED` nor `TIME_WAIT`" (R30). -/
def RunFlagSound (s : State) : Prop := s.runEn = true → s.ccb.state ≠ .closed ∧ s.ccb.state ≠ .timeWait

/-- "`ccb.recv_seq = ccb.send_ack` holds at the end of every step" (R29). -/
def CountersTogether (s : State) : Prop := s.ccb.recvSeq = s.ccb.sendAck

/-- The legal values of the windows and of the retransmit counter (R27, R28, R33), and that outside CLOSED the
advertised window is the 65535 CONNECT wrote. -/
def WindowsSound (s : State) : Prop :=
  s.ccb.sendWindow = 0 ∧ s.ccb.retransmitCount = 0 ∧ (s.ccb.recvWindow = 0 ∨ s.ccb.recvWindow = 65535) ∧
    (s.ccb.state ≠ .closed → s.ccb.recvWindow = 65535)

/-- The two fields whose width is an OPEN parameter lie within it: `last_sent` is W_TS bits, `retransmit_count` W_RTX
bits (R8, R21). -/
def WidthsSound (s : State) : Prop :=
  s.ccb.lastSent < 2 ^ s.params.wTs ∧ s.ccb.retransmitCount < 2 ^ s.params.wRtx

/-- "the only states `ccb.state` ever holds at the end of a step" (R25). -/
def ReachedStates : List TcpState := [.closed, .synSent, .established, .closeWait, .lastAck, .finWait1]

/-- The protocol state is one of the six that are ever entered (R25). -/
def StateReached (s : State) : Prop := s.ccb.state ∈ ReachedStates

/-- What every transmitted datagram is (R83, R86, R88, R90, R128, R206): the emitted constants in place, its total
length its own, both checksums valid over the bytes as sent, one of the four flag sets, a payload only with
PSH+ACK, the full window. -/
structure SoundDatagram (D : Buffer) : Prop where
  atLeast40 : 40 ≤ D.length
  atMost65535 : D.length ≤ 65535
  versionIhl : byteAt D 0 = 0x45
  tosZero : byteAt D 1 = 0
  totalLength : (be16 D 2).toNat = D.length
  noFragment : be16 D 6 = 0
  ttl64 : byteAt D 8 = 64
  protocolTcp : byteAt D 9 = 6
  ipv4Checksum : checksumOk (D.take 20) = true
  dataOffset : byteAt D 32 = 0x50
  flagKind : byteAt D 33 ∈ [0x02, 0x10, 0x11, (0x18 : Byte)]
  payloadKind : D.length ≠ 40 → byteAt D 33 = 0x18
  fullWindow : be16 D 34 = 65535
  urgentZero : be16 D 38 = 0
  tcpChecksum : checksumOk (pseudoHeader (be32 D 12) (be32 D 16) (D.length - 40) ++ D.drop 20) = true

/-- Every datagram put out so far is sound. -/
def OutputsSound (s : State) : Prop := ∀ D, OutEvent.tx D ∈ s.outputs → SoundDatagram D

/-- The invariant of the machine: all of the above. -/
structure Inv (s : State) : Prop where
  runFlag : RunFlagSound s
  counters : CountersTogether s
  windows : WindowsSound s
  widths : WidthsSound s
  reached : StateReached s
  outputs : OutputsSound s

/-- The two rows of the opcode 0x03. -/
def isClose (i : Instr) : Prop := i = .closeEstablished ∨ i = .closeRelease

/-- RX_DATAGRAM and what it invokes: HANDLE. -/
def isReception (i : Instr) : Prop := (∃ B, i = .rxDatagram B) ∨ ∃ tcp payload, i = .handle tcp payload

/-- The arrows of R24, each with the operation that takes it; "an operation not listed leaves `state` unchanged". The
receive classes stand beside the RX segment that selects them. -/
def Transition (i : Instr) (a b : TcpState) : Prop :=
  b = a ∨
  (a = .closed ∧ b = .synSent ∧ ∃ addr port, i = .connect addr port) ∨
  (a = .synSent ∧ b = .established ∧ (isReception i ∨ ∃ tcp payload, i = .rxSynsentSynack tcp payload)) ∨
  (a = .established ∧ (b = .closeWait ∨ b = .lastAck) ∧ (isReception i ∨ ∃ tcp payload, i = .rxEstFin tcp payload)) ∨
  (a = .lastAck ∧ b = .closed ∧ (isReception i ∨ ∃ tcp payload, i = .rxLastackAck tcp payload)) ∨
  (a = .established ∧ b = .finWait1 ∧ isClose i) ∨
  (a ≠ .established ∧ b = .closed ∧ isClose i) ∨
  (b = .closed ∧ i = .reset)

/-- The states no segment moves (R177, R306, R312): only CLOSE and RESET leave them. -/
def DeadEnds : List TcpState :=
  [.listen, .synReceived, .finWait1, .finWait2, .closeWait, .closing, .timeWait]

/-- The totality table of R180, payload empty: the end state, and the flags bytes of the datagrams emitted. -/
def tableCell (st : TcpState) (flags : Byte) : TcpState × List Byte :=
  if st = .synSent ∧ flags = 0x12 then (.established, [0x10])
  else if st = .established ∧ flags = 0x01 then (.lastAck, [0x10, 0x11])
  else if st = .lastAck ∧ (flags = 0x12 ∨ flags = 0x10) then (.closed, [])
  else (st, [])

/-- The sequence space of a datagram as its bytes show it: payload bytes, plus one if SYN or FIN is set (R204). -/
def datagramSpace (D : Buffer) : Nat := sequenceSpace (byteAt D 33) (D.length - 40)

/-- The sequence space of the datagrams among some outputs. -/
def outputSpace : List OutEvent → Nat
  | [] => 0
  | .tx D :: rest => datagramSpace D + outputSpace rest
  | .sink _ :: rest => outputSpace rest
  | .response _ _ :: rest => outputSpace rest
  | .verdict _ :: rest => outputSpace rest

/-- The datagrams among some outputs. -/
def datagrams : List OutEvent → List Buffer
  | [] => []
  | .tx D :: rest => D :: datagrams rest
  | .sink _ :: rest => datagrams rest
  | .response _ _ :: rest => datagrams rest
  | .verdict _ :: rest => datagrams rest

/-- Whether an output is a response. -/
def isResponse : OutEvent → Bool
  | .response _ _ => true
  | .tx _ => false
  | .sink _ => false
  | .verdict _ => false

/-- Whether an output is a verdict. -/
def isVerdict : OutEvent → Bool
  | .verdict _ => true
  | .tx _ => false
  | .sink _ => false
  | .response _ _ => false

/-- The 16-bit adder form of the one's-complement sum, R126 (b): add a word, and on carry-out add it back in. -/
def adderSum : Nat → Buffer → Nat
  | acc, [] => acc
  | acc, [b] => endAround acc (b.toNat * 256)
  | acc, a :: b :: rest => adderSum (endAround acc (a.toNat * 256 + b.toNat)) rest
where
  endAround (a b : Nat) : Nat := if a + b > 65535 then a + b - 65535 else a + b

/-- The peer of a connection: local and remote ends swapped. -/
def mirror (c : Ccb) : Ccb :=
  { c with localAddr := c.remoteAddr, localPort := c.remotePort, remoteAddr := c.localAddr, remotePort := c.localPort }

/-- The host commands of R100. -/
def isCommand : Instr → Bool
  | .connect _ _ | .send _ | .closeEstablished | .closeRelease | .run | .cmdReserved _ => true
  | .txSyn | .txAck | .txFinack | .txPshack _ | .rxSynsentSynack _ _ | .rxEstData _ _ | .rxEstFin _ _
  | .rxLastackAck _ _ | .rxIgnore _ _ | .packIpv4 _ | .decIpv4 _ | .encIpv4 _ _ _ _ | .packTcp _ | .decTcp _
  | .encTcp _ _ _ _ _ _ _ _ _ | .pseudo _ _ _ | .ocsum _ | .csum _ | .csumok _ | .tcpcsum _ _ _ _ | .decDgram _
  | .filterIp _ | .filterPort _ | .handle _ _ | .sendseg _ _ | .rxDatagram _ | .rxTimeout | .rxError | .reset => false

/-- The events of the RX port (R62). -/
def isRxEvent : Instr → Bool
  | .rxDatagram _ | .rxTimeout | .rxError => true
  | .connect _ _ | .send _ | .closeEstablished | .closeRelease | .run | .cmdReserved _ | .txSyn | .txAck
  | .txFinack | .txPshack _ | .rxSynsentSynack _ _ | .rxEstData _ _ | .rxEstFin _ _ | .rxLastackAck _ _
  | .rxIgnore _ _ | .packIpv4 _ | .decIpv4 _ | .encIpv4 _ _ _ _ | .packTcp _ | .decTcp _
  | .encTcp _ _ _ _ _ _ _ _ _ | .pseudo _ _ _ | .ocsum _ | .csum _ | .csumok _ | .tcpcsum _ _ _ _ | .decDgram _
  | .filterIp _ | .filterPort _ | .handle _ _ | .sendseg _ _ | .reset => false

/-- The checksum unit, the codec and the filter: "they read no state, write no state" (40_checksum.md, 41_codec.md;
the filter reads the 4-tuple). -/
def isPureUnit : Instr → Bool
  | .packIpv4 _ | .decIpv4 _ | .encIpv4 _ _ _ _ | .packTcp _ | .decTcp _ | .encTcp _ _ _ _ _ _ _ _ _
  | .pseudo _ _ _ | .ocsum _ | .csum _ | .csumok _ | .tcpcsum _ _ _ _ | .decDgram _ | .filterIp _
  | .filterPort _ => true
  | .connect _ _ | .send _ | .closeEstablished | .closeRelease | .run | .cmdReserved _ | .txSyn | .txAck
  | .txFinack | .txPshack _ | .rxSynsentSynack _ _ | .rxEstData _ _ | .rxEstFin _ _ | .rxLastackAck _ _
  | .rxIgnore _ _ | .handle _ _ | .sendseg _ _ | .rxDatagram _ | .rxTimeout | .rxError | .reset => false

end Sys2Proof.Safety
end

