-- ==== Sys2Proof/Certificates/Slice0/Obligations.lean ====
section
/-! DEFINITION. The statements for the provers, each with the rule of the spec it formalises. In every statement
`drawTransmit` and `drawConnect` answer what the environment supplies next, under no law: a listed answer or a free
value. A next state written out as a record is the frame too: what it does not name is as before. The rules speak of
what is drawn, put out and answered; that draws, ports and outputs are lists of the state, and a unit's value its
`result`, is the model's own form of it (logs 1 to 6). The OPEN parameters of R8 are those of the state, any (log 13). -/

open Sys2Proof Sys2Proof.Machine Sys2Proof.Safety

/-! Reset, registers, codes -/

/-- R34, R301: after reset every CCB field is 0, so the state is CLOSED, and run_en is 0. -/
def Obligations.ResetStateIsAllZero : Prop :=
  State.reset.ccb.state = .closed ∧ State.reset.ccb.localAddr = 0 ∧ State.reset.ccb.localPort = 0 ∧
  State.reset.ccb.remoteAddr = 0 ∧ State.reset.ccb.remotePort = 0 ∧ State.reset.ccb.sendSeq = 0 ∧
  State.reset.ccb.sendAck = 0 ∧ State.reset.ccb.recvSeq = 0 ∧ State.reset.ccb.recvAck = 0 ∧
  State.reset.ccb.sendWindow = 0 ∧ State.reset.ccb.recvWindow = 0 ∧ State.reset.ccb.lastSent = 0 ∧
  State.reset.ccb.retransmitCount = 0 ∧ State.reset.runEn = false ∧ stateCode State.reset.ccb.state = 0

/-- R300: RESET sets every CCB field to 0 and run_en to 0; it transmits nothing, delivers nothing, gives no response. R274:
RESET wins over whatever is pending. The model's choices: the reset input is the boundary's sample (log 4), and RESET
keeps the lists of the ports, the draws and the outputs (log 14). -/
def Obligations.ResetEventZeroesTheBlock : Prop :=
  (∀ s : State, exec .reset s = .next { s with
    ccb := {
      state := .closed, localAddr := 0, localPort := 0, remoteAddr := 0, remotePort := 0, sendSeq := 0, sendAck := 0,
      recvSeq := 0, recvAck := 0, sendWindow := 0, recvWindow := 0, lastSent := 0, retransmitCount := 0 }
    runEn := false }) ∧
  ∀ s : State, (drawBoundary s).1.reset = true → step s = exec .reset (drawBoundary s).2

/-- R32, R33: the fourteen registers read the fields zero-extended, LAST_SENT the W_TS low bits and RETRANSMIT_COUNT the
W_RTX low bits of theirs; any other number reads 0; STATE reads a code of 0 to 10, the reset state reads 0 everywhere. -/
def Obligations.RegistersReadTheFields : Prop :=
  (∀ s : State,
    readRegister s 0 = stateCode s.ccb.state ∧ readRegister s 1 = s.ccb.localAddr.toNat ∧
    readRegister s 2 = s.ccb.localPort.toNat ∧ readRegister s 3 = s.ccb.remoteAddr.toNat ∧
    readRegister s 4 = s.ccb.remotePort.toNat ∧ readRegister s 5 = s.ccb.sendSeq.toNat ∧
    readRegister s 6 = s.ccb.sendAck.toNat ∧ readRegister s 7 = s.ccb.recvSeq.toNat ∧
    readRegister s 8 = s.ccb.recvAck.toNat ∧ readRegister s 9 = s.ccb.sendWindow.toNat ∧
    readRegister s 10 = s.ccb.recvWindow.toNat ∧ readRegister s 11 = s.ccb.lastSent % 2 ^ s.params.wTs ∧
    readRegister s 12 = s.ccb.retransmitCount % 2 ^ s.params.wRtx ∧ readRegister s 13 = (if s.runEn then 1 else 0) ∧
    readRegister s 0 ≤ 10 ∧ ∀ n, 14 ≤ n → readRegister s n = 0) ∧
  ∀ n, readRegister State.reset n = 0

/-- R96, R98, R99: the state, status and verdict codes, in the order of the tables. -/
def Obligations.CodesAreTheTables : Prop :=
  [TcpState.closed, .listen, .synSent, .synReceived, .established, .finWait1, .finWait2, .closeWait, .closing,
    .lastAck, .timeWait].map stateCode = List.range 11 ∧
  [Status.ok, .transportUnavailable, .sendFailed, .notConnected, .malformedSegment, .peerUnreachable, .busy,
    .payloadTooLong, .receiveFailed, .badCommand].map statusCode = List.range 10 ∧
  [Verdict.handled, .ignored, .dropMalformed, .dropNotTcp, .dropAddr, .dropPort, .abortSendFailed, .timeout,
    .recvFailed].map verdictCode = List.range 9

/-! Encodings -/

/-- R105: for every well-formed operation and every protocol state that selects it, what the encoder presents is
decoded to a list that holds it, and every operation of the list is presented by the same words. -/
def Obligations.DecodeOfEncodeIsTheOperation : Prop :=
  ∀ (params : OpenParams) (st : TcpState) (i : Instr) (p : Presented), wellFormed params i = true →
    rowSelected st i = true → encode i = some p →
    ∃ ops, decode st p = .ok ops ∧ i ∈ ops ∧ ∀ j ∈ ops, encode j = some p

/-- Words of the table, written out, decode to their rows. The opcodes are those of R100 and R101, the choice between the
CLOSE rows is the state's (R105), the flags bytes are those of R90. That decodeTableWord reads a table word as a command
opcode in the state after reset is the model's choice (log 7). -/
def Obligations.WordsOfTheTableDecode : Prop :=
  decodeTableWord 8 0x01 = some (.connect 0 0) ∧ decodeTableWord 8 0x02 = some (.send []) ∧
  decodeTableWord 8 0x03 = some .closeRelease ∧ decodeTableWord 8 0x04 = some .run ∧
  decodeTableWord 8 0xFF = some (.cmdReserved 0xFF) ∧
  decode .established (.command (bareCommand 0x03)) = .ok [.closeEstablished] ∧
  decode .synSent (.transmit 0x02 []) = .ok [.txSyn] ∧ decode .established (.transmit 0x11 []) = .ok [.txFinack] ∧
  decode .established (.transmit 0x04 []) = .error .unknownTransmitKind

/-! The checksum unit -/

/-- R126 (b), for R120: OCSUM is what a 16-bit adder gives that adds the carry-out back in after every word. -/
def Obligations.OcsumIsTheEndAroundAdder : Prop :=
  ∀ (B : Buffer) (s : State),
    exec (.ocsum B) s = .next { s with result := some (.word (BitVec.ofNat 16 (adderSum 0 B))) }

/-- R120, R126: OCSUM is the true sum of the words modulo 0xFFFF, and 0 exactly when every byte is 0. -/
def Obligations.OcsumIsTheSumModuloAllOnes : Prop :=
  ∀ (B : Buffer) (s : State), ∃ r : U16, exec (.ocsum B) s = .next { s with result := some (.word r) } ∧
    r.toNat % 65535 = sumWords B % 65535 ∧ (r = 0 ↔ ∀ b ∈ B, b = 0)

/-- R122, R123: CSUM is the one's complement of OCSUM, and 0xFFFF on the empty buffer. -/
def Obligations.CsumIsTheComplement : Prop :=
  (∀ (B : Buffer) (s : State), exec (.csum B) s = .next { s with result := some (.word (0xFFFF - onesSum B)) } ∧
    (0xFFFF - onesSum B : U16) = ~~~ (onesSum B)) ∧
  ∀ s : State, exec (.csum []) s = .next { s with result := some (.word 0xFFFF) }

/-- The laws the spec derives at R124, R143 and R147: CSUMOK is OCSUM = 0xFFFF, equivalently CSUM = 0; a buffer whose
checksum is stored at an even offset that held zeros passes it; so do both headers the send path builds. -/
def Obligations.StoredChecksumVerifies : Prop :=
  (∀ (B : Buffer) (s : State), ∃ ok : Bool, exec (.csumok B) s = .next { s with result := some (.bit ok) } ∧
    (ok = true ↔ onesSum B = 0xFFFF) ∧ (ok = true ↔ internetChecksum B = 0)) ∧
  (∀ (B : Buffer) (i : Nat) (s : State), i % 2 = 0 → i + 2 ≤ B.length → byteAt B i = 0 → byteAt B (i + 1) = 0 →
    exec (.csumok (memWrite16 B i (internetChecksum B))) s = .next { s with result := some (.bit true) }) ∧
  (∀ (n : Nat) (ipId : U16) (src dst : U32), checksumOk (buildIpv4 n ipId src dst) = true) ∧
  ∀ (sp dp w : U16) (seq ack src dst : U32) (flags : Byte) (P : Buffer),
    checksumOk (pseudoHeader src dst P.length ++ buildTcp sp dp seq ack flags w src dst P ++ P) = true

/-- R127 (2), (4): changing any single byte of a buffer changes its checksum, so does changing one payload byte the TCP
checksum. -/
def Obligations.OneByteChangeIsDetected : Prop :=
  (∀ (B : Buffer) (i : Nat) (b : Byte), i < B.length → b ≠ byteAt B i →
    internetChecksum (B.set i b) ≠ internetChecksum B) ∧
  ∀ (H : Buffer) (src dst : U32) (P : Buffer) (i : Nat) (b : Byte), H.length = 20 → i < P.length →
    b ≠ byteAt P i → tcpChecksum H src dst (P.set i b) ≠ tcpChecksum H src dst P

/-- R125: TCPCSUM sums the pseudo-header, the header with its checksum field zero, and the payload; what the field held
does not matter. -/
def Obligations.TcpcsumZeroesItsField : Prop :=
  ∀ (H : Buffer) (src dst : U32) (P : Buffer) (v : U16) (s : State), H.length = 20 → P.length ≤ 65515 →
    exec (.tcpcsum (memWrite16 H 16 v) src dst P) s = .next { s with
      result := some (.word (internetChecksum
        (put32 src ++ put32 dst ++ [0x00, 0x06] ++ put16 (BitVec.ofNat 16 (20 + P.length)) ++
          (H.take 16 ++ [0x00, 0x00] ++ H.drop 18) ++ P))) }

/-- The codec and checksum units outside the operand domains of R125, R142, R143, R146, R147, R200 (the model's stops,
log 12), and the send path's over-long payload. -/
def Obligations.UnitsStopOutsideTheirOperands : Prop :=
  (∀ (B : Buffer) (s : State), B.length < 20 →
    exec (.decIpv4 B) s = .fault .readPastBuffer ∧ exec (.decTcp B) s = .fault .readPastBuffer) ∧
  (∀ (H P : Buffer) (src dst : U32) (s : State), H.length ≠ 20 ∨ 65515 < P.length →
    exec (.tcpcsum H src dst P) s = .refused .outsideDomain) ∧
  (∀ (n : Nat) (ipId : U16) (src dst : U32) (s : State), 65495 < n →
    exec (.encIpv4 n ipId src dst) s = .refused .outsideDomain) ∧
  (∀ (sp dp w : U16) (seq ack src dst : U32) (flags : Byte) (P : Buffer) (s : State), 65515 < P.length →
    exec (.encTcp sp dp seq ack flags w src dst P) s = .refused .outsideDomain) ∧
  (∀ (src dst : U32) (n : Nat) (s : State), 65515 < n → exec (.pseudo src dst n) s = .refused .outsideDomain) ∧
  ∀ (flags : Byte) (P : Buffer) (s : State), 65495 < P.length →
    exec (.sendseg flags P) s = .refused .outsideDomain ∧ exec (.txPshack P) s = .refused .outsideDomain

/-! The header codec -/

/-- R148: decoding a packed header gives the header back, and packing a decoded 20-byte buffer gives the buffer back,
for IPv4 and for TCP. -/
def Obligations.HeaderCodecRoundTrips : Prop :=
  (∀ (h : IPv4Header) (s : State), ∃ B, exec (.packIpv4 h) s = .next { s with result := some (.buffer B) } ∧
    B.length = 20 ∧ exec (.decIpv4 B) s = .next { s with result := some (.ipv4 h) }) ∧
  (∀ (B : Buffer) (s : State), B.length = 20 →
    ∃ h, exec (.decIpv4 B) s = .next { s with result := some (.ipv4 h) } ∧
      exec (.packIpv4 h) s = .next { s with result := some (.buffer B) }) ∧
  (∀ (t : TCPHeader) (s : State), ∃ B, exec (.packTcp t) s = .next { s with result := some (.buffer B) } ∧
    B.length = 20 ∧ exec (.decTcp B) s = .next { s with result := some (.tcp t) }) ∧
  ∀ (B : Buffer) (s : State), B.length = 20 →
    ∃ t, exec (.decTcp B) s = .next { s with result := some (.tcp t) } ∧
      exec (.packTcp t) s = .next { s with result := some (.buffer B) }

/-- R141, R142, R145, R146: the field encoders lay the fields out, and the field decoders read them from bytes 0 to 19
only, each where the layouts R82 and R84 put it, the first-listed sub-field of a byte at its top. -/
def Obligations.HeaderCodecFollowsTheLayout : Prop :=
  (∀ (h : IPv4Header) (s : State), exec (.packIpv4 h) s = .next { s with
    result := some (.buffer ([h.version ++ h.ihl, h.tos] ++ put16 h.totalLength ++ put16 h.identification ++
      put16 h.flagsFrag ++ [h.ttl, h.protocol] ++ put16 h.checksum ++ put32 h.src ++ put32 h.dst)) }) ∧
  (∀ (t : TCPHeader) (s : State), exec (.packTcp t) s = .next { s with
    result := some (.buffer (put16 t.srcPort ++ put16 t.dstPort ++ put32 t.seq ++ put32 t.ack ++
      [t.doff ++ t.reserved ++ t.ns, t.flags] ++ put16 t.window ++ put16 t.checksum ++ put16 t.urgent)) }) ∧
  (∀ (B rest : Buffer) (s : State), B.length = 20 →
    exec (.decIpv4 (B ++ rest)) s = .next { s with result := some (.ipv4 {
      version := (byteAt B 0 >>> 4).setWidth 4, ihl := (byteAt B 0 &&& 15).setWidth 4, tos := byteAt B 1,
      totalLength := be16 B 2, identification := be16 B 4, flagsFrag := be16 B 6, ttl := byteAt B 8,
      protocol := byteAt B 9, checksum := be16 B 10, src := be32 B 12, dst := be32 B 16 }) }) ∧
  ∀ (T rest : Buffer) (s : State), T.length = 20 →
    exec (.decTcp (T ++ rest)) s = .next { s with result := some (.tcp {
      srcPort := be16 T 0, dstPort := be16 T 2, seq := be32 T 4, ack := be32 T 8,
      doff := (byteAt T 12 >>> 4).setWidth 4, reserved := ((byteAt T 12 >>> 1) &&& 7).setWidth 3,
      ns := (byteAt T 12 &&& 1).setWidth 1, flags := byteAt T 13, window := be16 T 14, checksum := be16 T 16,
      urgent := be16 T 18 }) }

/-- R143: ENC.IPV4 builds 20 bytes that decode to the emitted fields, whose checksum is that of the header with the
field zero. -/
def Obligations.BuiltIpv4HeaderHasItsFields : Prop :=
  ∀ (n : Nat) (ipId : U16) (src dst : U32) (s : State), n ≤ 65495 →
    ∃ D c, exec (.encIpv4 n ipId src dst) s = .next { s with result := some (.buffer D) } ∧ D.length = 20 ∧
      unpackIpv4 D = {
        version := 4, ihl := 5, tos := 0, totalLength := BitVec.ofNat 16 (40 + n), identification := ipId,
        flagsFrag := 0, ttl := 64, protocol := 6, checksum := c, src := src, dst := dst } ∧
      c = internetChecksum (memWrite16 D 10 0)

/-- R147: ENC.TCP builds 20 bytes that decode to the emitted fields, whose checksum is the TCP checksum of the header
with the field zero, between the two addresses, over the payload. -/
def Obligations.BuiltTcpHeaderHasItsFields : Prop :=
  ∀ (sp dp w : U16) (seq ack src dst : U32) (flags : Byte) (P : Buffer) (s : State), P.length ≤ 65515 →
    ∃ D c, exec (.encTcp sp dp seq ack flags w src dst P) s = .next { s with result := some (.buffer D) } ∧
      D.length = 20 ∧
      unpackTcp D = {
        srcPort := sp, dstPort := dp, seq := seq, ack := ack, doff := 5, reserved := 0, ns := 0, flags := flags,
        window := w, checksum := c, urgent := 0 } ∧
      c = tcpChecksum (memWrite16 D 16 0) src dst P

/-- R87: the layout of the pseudo-header. -/
def Obligations.PseudoHeaderHasItsLayout : Prop :=
  ∀ (src dst : U32) (n : Nat) (s : State), n ≤ 65515 →
    ∃ D, exec (.pseudo src dst n) s = .next { s with result := some (.buffer D) } ∧ D.length = 12 ∧
      be32 D 0 = src ∧ be32 D 4 = dst ∧ byteAt D 8 = 0 ∧ byteAt D 9 = 6 ∧ (be16 D 10).toNat = 20 + n

/-- R150, R151, R153: DEC.DGRAM is Malformed exactly on the four checks, and else gives the two headers and what lies
behind them; the payload is empty when the options run past the buffer. -/
def Obligations.DatagramDecodesByItsLengths : Prop :=
  ∀ (B : Buffer) (s : State),
    let ihl := (byteAt B 0 &&& 15).toNat
    let doff := (byteAt B (4 * ihl + 12) >>> 4).toNat
    exec (.decDgram B) s = .next { s with
      result := some (.dgram
        (if B.length < 40 ∨ ihl < 5 ∨ B.length < 4 * ihl + 20 ∨ doff < 5 then none
          else some (unpackIpv4 (B.take 20), unpackTcp ((B.drop (4 * ihl)).take 20),
            B.drop (4 * ihl + 4 * doff)))) }

/-! The packet filter and the dispatcher -/

/-- R223, R224, R226: what the two filter stages answer, in the order of their tests. -/
def Obligations.FilterStagesAnswer : Prop :=
  (∀ (ip : IPv4Header) (s : State), exec (.filterIp ip) s = .next { s with
    result := some (.filter
      (if ip.protocol ≠ 6 then some .dropNotTcp
        else if ip.src = s.ccb.remoteAddr ∧ ip.dst = s.ccb.localAddr then none else some .dropAddr)) }) ∧
  ∀ (tcp : TCPHeader) (s : State), exec (.filterPort tcp) s = .next { s with
    result := some (.filter
      (if tcp.srcPort = s.ccb.remotePort ∧ tcp.dstPort = s.ccb.localPort then none else some .dropPort)) }

/-- R228: the stages together accept exactly the datagrams whose 104-bit key is the connection's. -/
def Obligations.FilterIsAFullWidthCompare : Prop :=
  ∀ (ip : IPv4Header) (tcp : TCPHeader) (c : Ccb),
    (filterIp ip c = none ∧ filterPort tcp c = none) ↔
      ip.protocol ++ ip.src ++ ip.dst ++ tcp.srcPort ++ tcp.dstPort =
        (6 : Byte) ++ c.remoteAddr ++ c.localAddr ++ c.remotePort ++ c.localPort

/-- R227: RX_DATAGRAM reaches HANDLE if and only if DEC.DGRAM is not Malformed and both filter stages pass, and then
with the same header and payload. -/
def Obligations.ReceptionIsDecodeAndFilter : Prop :=
  ∀ (c : Ccb) (B : Buffer) (tcp : TCPHeader) (payload : Buffer),
    receive c B = .ok (tcp, payload) ↔
      ∃ ip, decodeDatagram B = some (ip, tcp, payload) ∧ filterIp ip c = none ∧ filterPort tcp c = none

/-- R221, R222, R225, R229, R274: the whole of RX_DATAGRAM. The first check that fails gives the verdict and changes
nothing else; when none fails, HANDLE runs, a failed send or a terminal state clears run_en, and its outcome is the
verdict. -/
def Obligations.RxDatagramResult : Prop :=
  ∀ (B : Buffer) (s : State), s.runEn = true →
    let ip := unpackIpv4 (B.take 20)
    let h := 4 * ip.ihl.toNat
    let tcp := unpackTcp ((B.drop h).take 20)
    let dropped : Option Verdict :=
      if B.length < 40 then some .dropMalformed
      else if ip.protocol ≠ 6 then some .dropNotTcp
      else if ip.src ≠ s.ccb.remoteAddr ∨ ip.dst ≠ s.ccb.localAddr then some .dropAddr
      else if ip.ihl.toNat < 5 ∨ B.length < h + 20 then some .dropMalformed
      else if tcp.srcPort ≠ s.ccb.remotePort ∨ tcp.dstPort ≠ s.ccb.localPort then some .dropPort
      else if tcp.doff.toNat < 5 then some .dropMalformed
      else none
    (∀ v, dropped = some v →
      exec (.rxDatagram B) s = .next { s with outputs := s.outputs ++ [.verdict v] }) ∧
    (dropped = none →
      ∃ u outcome, exec (.handle tcp (B.drop (h + 4 * tcp.doff.toNat))) s = .next u ∧
        u.result = some (.outcome outcome) ∧
        exec (.rxDatagram B) s = .next { u with
          result := s.result
          runEn := if outcome = .abortSendFailed ∨ u.ccb.state = .closed ∨ u.ccb.state = .timeWait then false
            else s.runEn
          outputs := u.outputs ++ [.verdict (match outcome with
            | .handled => .handled | .ignored => .ignored | .abortSendFailed => .abortSendFailed)] })

/-- R231, R232: RX_TIMEOUT changes nothing, its verdict is TIMEOUT; RX_ERROR clears run_en and leaves the CCB alone, its
verdict is RECV_FAILED. -/
def Obligations.RxTimeoutAndErrorResult : Prop :=
  ∀ s : State, s.runEn = true →
    exec .rxTimeout s = .next { s with outputs := s.outputs ++ [.verdict .timeout] } ∧
    exec .rxError s = .next { s with runEn := false, outputs := s.outputs ++ [.verdict .recvFailed] }

/-- R220: while run_en = 0 none of the three RX events has a step, and a step leaves the RX port as it is. -/
def Obligations.RxWaitsForRun : Prop :=
  ∀ s : State, s.runEn = false →
    (∀ B, exec (.rxDatagram B) s = .refused .rxNotTaken) ∧ exec .rxTimeout s = .refused .rxNotTaken ∧
    exec .rxError s = .refused .rxNotTaken ∧ ∀ t, step s = .next t → t.rxPort = s.rxPort

/-! The send path -/

/-- R200, R204, R205, for SENDSEG with any flags byte and payload (the model's choice, log 12) and for the four segment
kinds of R90 (the model's reading that each row is SENDSEG with its flags byte, log 17): one triple is drawn; on tx_ok = 1 one datagram goes
out, send_seq advances by the payload length plus one for SYN or FIN, last_sent takes now; on tx_ok = 0 nothing is
written. -/
def Obligations.SendSegmentResult : Prop :=
  ∀ (i : Instr) (flags : Byte) (P : Buffer),
    (i = .sendseg flags P ∧ P.length ≤ 65495) ∨ (i = .txSyn ∧ flags = 0x02 ∧ P = []) ∨
      (i = .txAck ∧ flags = 0x10 ∧ P = []) ∨ (i = .txFinack ∧ flags = 0x11 ∧ P = []) ∨
      (i = .txPshack P ∧ flags = 0x18 ∧ P.length ≤ 65495) →
    ∀ s : State,
      let d := (drawTransmit s).1
      let s' := (drawTransmit s).2
      let c := s.ccb
      (d.txOk = true → exec i s = .next { s' with
        outputs := s.outputs ++ [.tx (buildIpv4 P.length d.ipId c.localAddr c.remoteAddr ++
          buildTcp c.localPort c.remotePort c.sendSeq c.sendAck flags c.recvWindow c.localAddr c.remoteAddr P ++ P)]
        ccb := { c with
          sendSeq := c.sendSeq + BitVec.ofNat 32 (P.length + if flags &&& 0x03 ≠ 0 then 1 else 0)
          lastSent := d.now }
        result := some (.sent true) }) ∧
      (d.txOk = false → exec i s = .next { s' with result := some (.sent false) })

/-- R201, R202, R203 with R150, R151, R226: the datagram an engine assembles passes the front end of the engine at the
other end (addresses and ports swapped), which reads the payload and the fields the sender put in. -/
def Obligations.PeerAcceptsTheDatagram : Prop :=
  ∀ (c : Ccb) (ipId : U16) (flags : Byte) (P : Buffer), P.length ≤ 65495 →
    ∃ sum, receive (mirror c) (datagramOf c ipId flags P) = .ok ({
      srcPort := c.localPort, dstPort := c.remotePort, seq := c.sendSeq, ack := c.sendAck, doff := 5, reserved := 0,
      ns := 0, flags := flags, window := c.recvWindow, checksum := sum, urgent := 0 }, P)

/-- R83, R86, R128, R143, R147: with the window CONNECT wrote, one of the four flag sets and a payload only for
PSH+ACK, the assembled datagram is sound: constants in place, lengths right, both checksums valid as sent. -/
def Obligations.AssembledDatagramIsSound : Prop :=
  ∀ (c : Ccb) (ipId : U16) (flags : Byte) (P : Buffer), c.recvWindow = 65535 → P.length ≤ 65495 →
    flags ∈ [0x02, 0x10, 0x11, (0x18 : Byte)] → (P ≠ [] → flags = 0x18) →
    SoundDatagram (datagramOf c ipId flags P)

/-! The state machine -/

/-- R173: the SYN+ACK in SYN_SENT. That its failed send leaves run_en as it is, the write R205 lists beside the rule
being the dispatcher's (R221, `RxDatagramResult`), is the model's reading (log 10). -/
def Obligations.SynAckOpensTheConnection : Prop :=
  ∀ (tcp : TCPHeader) (P : Buffer) (s : State), s.ccb.state = .synSent → tcp.flags &&& 0x02 ≠ 0 →
    tcp.flags &&& 0x10 ≠ 0 →
    let d := (drawTransmit s).1
    let s' := (drawTransmit s).2
    let c := { s.ccb with recvSeq := tcp.seq + 1, sendAck := tcp.seq + 1, recvAck := tcp.ack, state := .established }
    (d.txOk = true → exec (.rxSynsentSynack tcp P) s = .next { s' with
      ccb := { c with lastSent := d.now }
      outputs := s.outputs ++ [.tx (datagramOf c d.ipId 0x10 [])]
      result := some (.outcome .handled) }) ∧
    (d.txOk = false → exec (.rxSynsentSynack tcp P) s = .next { s' with
      ccb := c, result := some (.outcome .abortSendFailed) })

/-- R174: inbound data in ESTABLISHED. That its failed send leaves run_en as it is, the write R205 lists beside the rule
being the dispatcher's (R221, `RxDatagramResult`), is the model's reading (log 10). -/
def Obligations.DataIsAckedThenDelivered : Prop :=
  ∀ (tcp : TCPHeader) (P : Buffer) (s : State), s.ccb.state = .established → 0 < P.length →
    let d := (drawTransmit s).1
    let s' := (drawTransmit s).2
    let c := { s.ccb with
      recvSeq := s.ccb.recvSeq + BitVec.ofNat 32 P.length, sendAck := s.ccb.sendAck + BitVec.ofNat 32 P.length }
    (d.txOk = true → exec (.rxEstData tcp P) s = .next { s' with
      ccb := { c with lastSent := d.now }
      outputs := s.outputs ++ [.tx (datagramOf c d.ipId 0x10 []), .sink P]
      result := some (.outcome .handled) }) ∧
    (d.txOk = false → exec (.rxEstData tcp P) s = .next { s' with
      ccb := c, result := some (.outcome .abortSendFailed) })

/-- R175: the peer's FIN in ESTABLISHED: both datagrams sent, the first refused, the second refused. That a failed send
leaves run_en as it is, the write R205 lists beside the rule being the dispatcher's (R221, `RxDatagramResult`), is the
model's reading (log 10). -/
def Obligations.FinIsAnsweredTwice : Prop :=
  ∀ (tcp : TCPHeader) (P : Buffer) (s : State), s.ccb.state = .established → tcp.flags &&& 0x01 ≠ 0 →
    let d := (drawTransmit s).1
    let s' := (drawTransmit s).2
    let e := (drawTransmit s').1
    let s'' := (drawTransmit s').2
    let c := { s.ccb with recvSeq := s.ccb.recvSeq + 1, sendAck := s.ccb.sendAck + 1, state := .closeWait }
    (d.txOk = false → exec (.rxEstFin tcp P) s = .next { s' with
      ccb := c, result := some (.outcome .abortSendFailed) }) ∧
    (d.txOk = true → e.txOk = false → exec (.rxEstFin tcp P) s = .next { s'' with
      ccb := { c with lastSent := d.now }
      outputs := s.outputs ++ [.tx (datagramOf c d.ipId 0x10 [])]
      result := some (.outcome .abortSendFailed) }) ∧
    (d.txOk = true → e.txOk = true → exec (.rxEstFin tcp P) s = .next { s'' with
      ccb := { c with state := .lastAck, sendSeq := s.ccb.sendSeq + 1, lastSent := e.now }
      outputs := s.outputs ++ [.tx (datagramOf c d.ipId 0x10 []), .tx (datagramOf c e.ipId 0x11 [])]
      result := some (.outcome .handled) })

/-- R176: the ACK of our FIN in LAST_ACK. -/
def Obligations.LastAckCloses : Prop :=
  ∀ (tcp : TCPHeader) (P : Buffer) (s : State), s.ccb.state = .lastAck → tcp.flags &&& 0x10 ≠ 0 →
    exec (.rxLastackAck tcp P) s = .next { s with
      ccb := { s.ccb with state := .closed }, result := some (.outcome .handled) }

/-- R177: everything else is ignored: HANDLE in the eight states that take no segment and where the condition of the
state's rule fails. -/
def Obligations.EverythingElseIsIgnored : Prop :=
  ∀ (tcp : TCPHeader) (P : Buffer) (s : State),
    (s.ccb.state ∈ [TcpState.closed, .listen, .synReceived, .finWait1, .finWait2, .closeWait, .closing, .timeWait] ∨
      (s.ccb.state = .synSent ∧ (tcp.flags &&& 0x02 = 0 ∨ tcp.flags &&& 0x10 = 0)) ∨
      (s.ccb.state = .established ∧ P = [] ∧ tcp.flags &&& 0x01 = 0) ∨
      (s.ccb.state = .lastAck ∧ tcp.flags &&& 0x10 = 0) →
      exec (.handle tcp P) s = .next { s with result := some (.outcome .ignored) })

/-- The model's reading (log 9), from the else arms of R171: a receive class executed where its condition does not hold
ignores the segment, and RX.IGNORE executed by itself ignores any segment, in every state. -/
def Obligations.UnselectedClassIsIgnored : Prop :=
  ∀ (tcp : TCPHeader) (P : Buffer) (s : State),
    exec (.rxIgnore tcp P) s = .next { s with result := some (.outcome .ignored) } ∧
    (¬ (s.ccb.state = .synSent ∧ tcp.flags &&& 0x12 = 0x12) →
      exec (.rxSynsentSynack tcp P) s = .next { s with result := some (.outcome .ignored) }) ∧
    (¬ (s.ccb.state = .established ∧ P ≠ []) →
      exec (.rxEstData tcp P) s = .next { s with result := some (.outcome .ignored) }) ∧
    (¬ (s.ccb.state = .established ∧ tcp.flags &&& 0x01 = 0x01) →
      exec (.rxEstFin tcp P) s = .next { s with result := some (.outcome .ignored) }) ∧
    (¬ (s.ccb.state = .lastAck ∧ tcp.flags &&& 0x10 = 0x10) →
      exec (.rxLastackAck tcp P) s = .next { s with result := some (.outcome .ignored) })

/-- R91, R171: what HANDLE selects, by the state, the SYN, ACK and FIN bits and the payload: the decoder names the class,
or the two classes, and HANDLE does what they do; a failed send in the data rule keeps the FIN rule from running. -/
def Obligations.HandleSelectsByStateAndFlags : Prop :=
  ∀ (tcp : TCPHeader) (P : Buffer) (s : State),
    let syn := tcp.flags &&& 0x02 ≠ 0
    let ack := tcp.flags &&& 0x10 ≠ 0
    let fin := tcp.flags &&& 0x01 ≠ 0
    let selects (i : Instr) : Prop :=
      decodeSegment s.ccb.state tcp P = [i] ∧ exec (.handle tcp P) s = exec i s
    (s.ccb.state = .synSent → syn → ack → selects (.rxSynsentSynack tcp P)) ∧
    (s.ccb.state = .established → P ≠ [] → ¬ fin → selects (.rxEstData tcp P)) ∧
    (s.ccb.state = .established → P = [] → fin → selects (.rxEstFin tcp P)) ∧
    (s.ccb.state = .established → P ≠ [] → fin →
      decodeSegment s.ccb.state tcp P = [.rxEstData tcp P, .rxEstFin tcp P] ∧
      ∃ u, exec (.rxEstData tcp P) s = .next u ∧
        ((u.result = some (.outcome .abortSendFailed) ∧ exec (.handle tcp P) s = .next u) ∨
          (u.result = some (.outcome .handled) ∧ exec (.handle tcp P) s = exec (.rxEstFin tcp P) u))) ∧
    (s.ccb.state = .lastAck → ack → selects (.rxLastackAck tcp P)) ∧
    (¬ (s.ccb.state = .synSent ∧ syn ∧ ack) → ¬ (s.ccb.state = .established ∧ (P ≠ [] ∨ fin)) →
      ¬ (s.ccb.state = .lastAck ∧ ack) → selects (.rxIgnore tcp P))

/-- R178: a segment with payload and FIN in ESTABLISHED, every send accepted: three datagrams, the delivery between the
first and the second, LAST_ACK, both counters advanced by the length plus one. -/
def Obligations.DataAndFinInOneSegment : Prop :=
  ∀ (tcp : TCPHeader) (P : Buffer) (s : State), s.ccb.state = .established → P ≠ [] → tcp.flags &&& 0x01 ≠ 0 →
    let d := (drawTransmit s).1
    let s' := (drawTransmit s).2
    let e := (drawTransmit s').1
    let s'' := (drawTransmit s').2
    let f := (drawTransmit s'').1
    let n := BitVec.ofNat 32 P.length
    let c := { s.ccb with recvSeq := s.ccb.recvSeq + n, sendAck := s.ccb.sendAck + n }
    let c' := { c with recvSeq := c.recvSeq + 1, sendAck := c.sendAck + 1, state := .closeWait }
    d.txOk = true → e.txOk = true → f.txOk = true →
    exec (.handle tcp P) s = .next { (drawTransmit s'').2 with
      ccb := { c' with state := .lastAck, sendSeq := s.ccb.sendSeq + 1, lastSent := f.now }
      outputs := s.outputs ++ [.tx (datagramOf c d.ipId 0x10 []), .sink P, .tx (datagramOf c' e.ipId 0x10 []),
        .tx (datagramOf c' f.ipId 0x11 [])]
      result := some (.outcome .handled) }

/-- R180: the totality table, all eleven states against SYN, SYN+ACK, ACK and FIN with empty payload, every send
accepted: the end state and the flags bytes of the datagrams emitted. -/
def Obligations.TotalityTableHolds : Prop :=
  ∀ (tcp : TCPHeader) (s : State), tcp.flags ∈ [0x02, 0x12, 0x10, (0x01 : Byte)] →
    (drawTransmit s).1.txOk = true → (drawTransmit (drawTransmit s).2).1.txOk = true →
    ∃ t new, exec (.handle tcp []) s = .next t ∧ t.ccb.state = (tableCell s.ccb.state tcp.flags).1 ∧
      t.outputs = s.outputs ++ new ∧
      (datagrams new).map (fun D => byteAt D 33) = (tableCell s.ccb.state tcp.flags).2

/-- R170, R172: of the segment HANDLE reads only seq, ack, the SYN, ACK and FIN bits and the payload. -/
def Obligations.HandleReadsFourFields : Prop :=
  ∀ (a b : TCPHeader) (P : Buffer) (s : State), a.seq = b.seq → a.ack = b.ack →
    a.flags &&& 0x13 = b.flags &&& 0x13 → exec (.handle a P) s = exec (.handle b P) s

/-! The host commands -/

/-- R251: CONNECT: refused with Busy, refused with TransportUnavailable, opened, and back to CLOSED when the SYN cannot
be written. -/
def Obligations.ConnectResult : Prop :=
  ∀ (addr : U32) (port : U16) (s : State),
    let x := (drawConnect s).1
    let s₁ := (drawConnect s).2
    let c : Ccb := {
      state := .synSent, localAddr := x.localAddr, localPort := x.localPort, remoteAddr := addr, remotePort := port,
      sendSeq := x.isn, sendAck := 0, recvSeq := 0, recvAck := 0, sendWindow := 0, recvWindow := 65535,
      lastSent := 0, retransmitCount := 0 }
    let d := (drawTransmit s₁).1
    let s₂ := (drawTransmit s₁).2
    (s.ccb.state ≠ .closed →
      exec (.connect addr port) s = .next { s with outputs := s.outputs ++ [.response .busy none] }) ∧
    (s.ccb.state = .closed → x.transportOk = false →
      exec (.connect addr port) s = .next { s₁ with
        outputs := s.outputs ++ [.response .transportUnavailable none] }) ∧
    (s.ccb.state = .closed → x.transportOk = true → d.txOk = true →
      exec (.connect addr port) s = .next { s₂ with
        ccb := { c with sendSeq := x.isn + 1, lastSent := d.now }
        outputs := s.outputs ++ [.tx (datagramOf c d.ipId 0x02 []), .response .ok none] }) ∧
    (s.ccb.state = .closed → x.transportOk = true → d.txOk = false →
      exec (.connect addr port) s = .next { s₂ with
        ccb := { c with state := .closed }, outputs := s.outputs ++ [.response .sendFailed none] })

/-- R34, R35: what a closed block holds is dead: a CONNECT that reaches its transport does the same whatever it was. -/
def Obligations.ConnectForgetsTheOldBlock : Prop :=
  ∀ (addr : U32) (port : U16) (s : State) (c : Ccb), s.ccb.state = .closed → c.state = .closed →
    (drawConnect s).1.transportOk = true →
    exec (.connect addr port) { s with ccb := c } = exec (.connect addr port) s

/-- R252: SEND: NotConnected outside ESTABLISHED, then PayloadTooLong, then SendFailed, else one PSH+ACK datagram with
all the data and the count. -/
def Obligations.SendResult : Prop :=
  ∀ (data : Buffer) (s : State),
    let d := (drawTransmit s).1
    let s' := (drawTransmit s).2
    (s.ccb.state ≠ .established →
      exec (.send data) s = .next { s with outputs := s.outputs ++ [.response .notConnected none] }) ∧
    (s.ccb.state = .established → 65495 < data.length →
      exec (.send data) s = .next { s with outputs := s.outputs ++ [.response .payloadTooLong none] }) ∧
    (s.ccb.state = .established → data.length ≤ 65495 → d.txOk = false →
      exec (.send data) s = .next { s' with outputs := s.outputs ++ [.response .sendFailed none] }) ∧
    (s.ccb.state = .established → data.length ≤ 65495 → d.txOk = true →
      exec (.send data) s = .next { s' with
        ccb := { s.ccb with sendSeq := s.ccb.sendSeq + BitVec.ofNat 32 data.length, lastSent := d.now }
        outputs := s.outputs ++ [.tx (datagramOf s.ccb d.ipId 0x18 data), .response .ok (some data.length)] })

/-- R253: CLOSE in ESTABLISHED: a FIN+ACK, FIN_WAIT_1 and the dispatcher on, or SendFailed and nothing changed. -/
def Obligations.CloseActiveResult : Prop :=
  ∀ s : State, s.ccb.state = .established →
    let d := (drawTransmit s).1
    let s' := (drawTransmit s).2
    (d.txOk = true → exec .closeEstablished s = .next { s' with
      ccb := { s.ccb with state := .finWait1, sendSeq := s.ccb.sendSeq + 1, lastSent := d.now }
      runEn := true
      outputs := s.outputs ++ [.tx (datagramOf s.ccb d.ipId 0x11 []), .response .ok none] }) ∧
    (d.txOk = false → exec .closeEstablished s = .next { s' with
      outputs := s.outputs ++ [.response .sendFailed none] })

/-- R254, R35: CLOSE in any other state: CLOSED, run_en 0, OK, nothing transmitted, the other twelve fields kept. -/
def Obligations.CloseReleaseResult : Prop :=
  ∀ s : State, s.ccb.state ≠ .established → exec .closeRelease s = .next { s with
    ccb := { s.ccb with state := .closed }, runEn := false, outputs := s.outputs ++ [.response .ok none] }

/-- The model's reading (log 8): the two CLOSE rows are one command, opcode 0x03; which rule it follows is the state's
choice. -/
def Obligations.CloseRowsAreOneCommand : Prop :=
  ∀ s : State, exec .closeEstablished s = exec .closeRelease s

/-- R255: RUN sets run_en unless the state is terminal, writes no CCB field, transmits nothing. -/
def Obligations.RunResult : Prop :=
  ∀ s : State,
    (s.ccb.state ≠ .closed → s.ccb.state ≠ .timeWait →
      exec .run s = .next { s with runEn := true, outputs := s.outputs ++ [.response .ok none] }) ∧
    (s.ccb.state = .closed ∨ s.ccb.state = .timeWait →
      exec .run s = .next { s with outputs := s.outputs ++ [.response .ok none] })

/-- R101, R256: every opcode but 0x01 to 0x04 is answered BadCommand, with no state change and no other output. -/
def Obligations.ReservedOpcodeResult : Prop :=
  ∀ (word : CommandWord) (st : TcpState), word.opcode ∉ [0x01, 0x02, 0x03, (0x04 : Byte)] →
    decodeCommand st word = .cmdReserved word.opcode ∧
    ∀ s : State, exec (.cmdReserved word.opcode) s = .next { s with
      outputs := s.outputs ++ [.response .badCommand none] }

/-! The whole machine -/

/-- R230, R250: a command gives exactly one response, its last output, and no verdict; an RX event exactly one verdict,
its last output, and no response; every other operation neither. Outputs are only ever appended (R72). -/
def Obligations.OneAnswerPerStep : Prop :=
  ∀ (i : Instr) (s t : State), exec i s = .next t →
    ∃ new, t.outputs = s.outputs ++ new ∧
      (isCommand i = true → ∃ before st n, new = before ++ [.response st n] ∧
        ∀ e ∈ before, isResponse e = false ∧ isVerdict e = false) ∧
      (isRxEvent i = true → ∃ before v, new = before ++ [.verdict v] ∧
        ∀ e ∈ before, isResponse e = false ∧ isVerdict e = false) ∧
      (isCommand i = false → isRxEvent i = false → ∀ e ∈ new, isResponse e = false ∧ isVerdict e = false)

/-- R22: only CONNECT and RESET write the 4-tuple. -/
def Obligations.FourTupleIsConstant : Prop :=
  ∀ (i : Instr) (s t : State), exec i s = .next t → (∀ addr port, i ≠ .connect addr port) → i ≠ .reset →
    t.ccb.localAddr = s.ccb.localAddr ∧ t.ccb.localPort = s.ccb.localPort ∧
    t.ccb.remoteAddr = s.ccb.remoteAddr ∧ t.ccb.remotePort = s.ccb.remotePort

/-- R24: whatever is executed moves the protocol state only along an arrow of the table. -/
def Obligations.StateMovesAlongTheTable : Prop :=
  ∀ (i : Instr) (s t : State), exec i s = .next t → Transition i s.ccb.state t.ccb.state

/-- R177, R306, R312: the states no rule leaves on a segment are left only by CLOSE and RESET, for CLOSED. -/
def Obligations.DeadEndsNeedCloseOrReset : Prop :=
  ∀ (i : Instr) (s t : State), s.ccb.state ∈ DeadEnds → exec i s = .next t →
    t.ccb.state = s.ccb.state ∨ ((isClose i ∨ i = .reset) ∧ t.ccb.state = .closed)

/-- R26, R204: but for CONNECT and RESET, send_seq moves by exactly the sequence space of the datagrams transmitted,
modulo 2^32. -/
def Obligations.SendSeqCountsTheDatagrams : Prop :=
  ∀ (i : Instr) (s t : State), exec i s = .next t → (∀ addr port, i ≠ .connect addr port) → i ≠ .reset →
    ∃ new, t.outputs = s.outputs ++ new ∧
      t.ccb.sendSeq = s.ccb.sendSeq + BitVec.ofNat 32 (outputSpace new)

/-- 40_checksum.md, 41_codec.md: the checksum unit, the codec and the filter write nothing but their result. -/
def Obligations.PureUnitsWriteOnlyTheirResult : Prop :=
  ∀ (i : Instr) (s t : State), isPureUnit i = true → exec i s = .next t →
    ∃ r, t = { s with result := some r }

/-! Steps -/

/-- R66, R72, R220, in the model's form: that the ports are lists whose head is taken is its choice (log 1), and so is
that a sample of the boundary puts a command or an RX outcome first, an order R72 leaves open (log 4). With the reset
input low, a step takes the next command, or while run_en = 1 the next RX outcome, whichever the boundary puts first
when both are pending, off its port, and executes the operation it selects. A datagram longer than MAX_RX_LEN, which
the environment never presents (R62), has no step: the model refuses it by name (log 13). -/
def Obligations.StepRunsTheDecodedOperation : Prop :=
  (∀ (s : State) (word : CommandWord) (rest : List CommandWord), (drawBoundary s).1.reset = false →
    s.cmdPort = word :: rest → s.runEn = false ∨ s.rxPort = [] ∨ (drawBoundary s).1.commandFirst = true →
    step s = exec (decodeCommand s.ccb.state word) { (drawBoundary s).2 with cmdPort := rest }) ∧
  (∀ (s : State) (outcome : RxOutcome) (rest : List RxOutcome), (drawBoundary s).1.reset = false →
    s.runEn = true → s.rxPort = outcome :: rest → s.cmdPort = [] ∨ (drawBoundary s).1.commandFirst = false →
    (∀ B, outcome = .datagram B → B.length ≤ s.params.maxRxLen) →
    step s = exec (decodeRxOutcome outcome) { (drawBoundary s).2 with rxPort := rest }) ∧
  (∀ (s : State) (B : Buffer) (rest : List RxOutcome), (drawBoundary s).1.reset = false →
    s.runEn = true → s.rxPort = .datagram B :: rest → s.cmdPort = [] ∨ (drawBoundary s).1.commandFirst = false →
    s.params.maxRxLen < B.length → step s = .refused .notPresented)

/-- R73, R301: with the reset input low and nothing to take, the engine idles (log 18). -/
def Obligations.NothingToTakeIdles : Prop :=
  ∀ s : State, (drawBoundary s).1.reset = false → s.cmdPort = [] → s.runEn = false ∨ s.rxPort = [] →
    step s = .next (drawBoundary s).2

/-- R30: run_en = 1 implies the state is neither CLOSED nor TIME_WAIT, at the end of every step. -/
def Obligations.StepKeepsTheRunFlagSound : Prop :=
  ∀ s t : State, RunFlagSound s → step s = .next t → RunFlagSound t

/-- R29: recv_seq = send_ack at the end of every step. -/
def Obligations.StepKeepsTheCountersTogether : Prop :=
  ∀ s t : State, CountersTogether s → step s = .next t → CountersTogether t

/-- R25: no step leaves the six states that are ever entered. -/
def Obligations.StepStaysInTheReachedStates : Prop :=
  ∀ s t : State, StateReached s → step s = .next t → StateReached t

/-- R27, R28, R33: send_window and retransmit_count stay 0, recv_window is 0 or 65535, and 65535 outside CLOSED. R8, R21:
last_sent stays W_TS bits and retransmit_count W_RTX bits, whatever the OPEN parameters are, and nothing changes these
(they stand in the state by the model's choice, log 13). -/
def Obligations.StepKeepsTheWindowsAndWidths : Prop :=
  (∀ s t : State, WindowsSound s → step s = .next t → WindowsSound t) ∧
  (∀ s t : State, WidthsSound s → step s = .next t → WidthsSound t) ∧
  (∀ (i : Instr) (s t : State), exec i s = .next t → t.params = s.params) ∧
  ∀ s t : State, step s = .next t → t.params = s.params

/-- R83, R86, R90, R128, R206: from any state that meets the invariant, whatever a step transmits is a sound datagram,
and the state after it meets the invariant. -/
def Obligations.StepKeepsTheInvariant : Prop :=
  ∀ s t : State, Inv s → step s = .next t → Inv t

/-- The reset state meets the invariant. -/
def Obligations.ResetMeetsTheInvariant : Prop := Inv State.reset
end

