-- ==== Sys2Proof/Laws/Checksum.lean ====
section
/-! SUPPORT. What the one's-complement sum is, as a number (spec 40_checksum.md R120, R126): the representative in
1..0xFFFF of the true sum modulo 0xFFFF, and 0 for a true sum of 0. -/

namespace Sys2Proof.Laws

open Sys2Proof.Machine

/-- With the accumulator itself as fuel (or more), folding answers the representative in closed form. -/
theorem foldCarry_eq (fuel acc : Nat) (h : acc ≤ fuel) :
    foldCarry fuel acc = if acc = 0 then 0 else (acc - 1) % 65535 + 1 := by
  induction fuel generalizing acc with
  | zero => simp [foldCarry, Nat.le_zero.mp h]
  | succ fuel ih =>
    unfold foldCarry
    split
    · split <;> omega
    · rw [ih _ (by omega)]
      split <;> split <;> omega

/-- OCSUM as a number. -/
theorem onesSum_toNat (B : Buffer) :
    (onesSum B).toNat = if sumWords B = 0 then 0 else (sumWords B - 1) % 65535 + 1 := by
  unfold onesSum
  rw [BitVec.toNat_ofNat, foldCarry_eq _ _ (Nat.le_refl _)]
  split <;> omega

/-- OCSUM is the true sum modulo 0xFFFF (R126). -/
theorem onesSum_mod (B : Buffer) : (onesSum B).toNat % 65535 = sumWords B % 65535 := by
  rw [onesSum_toNat]
  split <;> omega

/-- CSUM as a number (R122). -/
theorem internetChecksum_toNat (B : Buffer) : (internetChecksum B).toNat = 65535 - (onesSum B).toNat := by
  unfold internetChecksum
  have := (onesSum B).isLt
  rw [BitVec.toNat_sub]
  simp
  omega

/-- The verification rule on the true sum (R124): a non-zero multiple of 0xFFFF. -/
theorem checksumOk_iff (B : Buffer) : checksumOk B = true ↔ sumWords B ≠ 0 ∧ sumWords B % 65535 = 0 := by
  have h := onesSum_toNat B
  have : checksumOk B = true ↔ (onesSum B).toNat = 65535 := by
    simp [checksumOk, ← BitVec.toNat_inj]
  rw [this, h]
  split <;> omega

/-- Words do not straddle an even offset (R68): the sum of a concatenation is the sum of the sums. -/
theorem sumWords_append (A C : Buffer) (h : A.length % 2 = 0) : sumWords (A ++ C) = sumWords A + sumWords C := by
  induction A using sumWords.induct with
  | case1 => simp [sumWords]
  | case2 b => simp at h
  | case3 a b rest ih =>
    simp only [List.length_cons] at h
    simp only [List.cons_append, sumWords, ih (by omega)]
    omega

/-- A 16-bit value laid out big-endian is one word of that value (R67). -/
@[simp] theorem sumWords_put16 (v : U16) : sumWords (put16 v) = v.toNat := by
  have := v.isLt
  simp [put16, sumWords]
  omega

end Sys2Proof.Laws
end

