-- ==== Sys2Proof/Laws/Operands.lean ====
section
/-! SUPPORT. Laws of the byte-order primitives (spec 00_scope.md R10) and of the packed bytes (R81): each value read back
from its bytes is the value, and each byte rebuilt from its fields is the byte. -/

namespace Sys2Proof.Laws

open Sys2Proof.Machine

/-- The sum of 00_scope.md R9 is the addition of 32-bit words. -/
theorem seqAdd_eq (a : U32) (n : Nat) : seqAdd a n = a + BitVec.ofNat 32 n := by
  apply BitVec.eq_of_toNat_eq
  simp [seqAdd]

@[simp] theorem put16_length (v : U16) : (put16 v).length = 2 := rfl

@[simp] theorem put32_length (v : U32) : (put32 v).length = 4 := rfl

/-- `be16(put16(v)) = v` (R10). -/
@[simp] theorem be16_put16 (v : U16) (rest : Buffer) : be16 (put16 v ++ rest) 0 = v := by
  apply BitVec.eq_of_toNat_eq
  have := v.isLt
  simp [be16, put16, byteAt]; omega

/-- `be32(put32(v)) = v` (R10). -/
@[simp] theorem be32_put32 (v : U32) (rest : Buffer) : be32 (put32 v ++ rest) 0 = v := by
  apply BitVec.eq_of_toNat_eq
  have := v.isLt
  simp [be32, put32, byteAt]; omega

/-- `put16(be16(B, 0)) = B[0..2)` (R10). -/
theorem put16_be16 (a b : Byte) (rest : Buffer) : put16 (be16 (a :: b :: rest) 0) = [a, b] := by
  have := a.isLt
  have := b.isLt
  simp only [put16, be16, byteAt, List.getD_cons_zero, List.getD_cons_succ, List.cons.injEq, and_true]
  constructor <;> apply BitVec.eq_of_toNat_eq <;> simp <;> omega

/-- `put32(be32(B, 0)) = B[0..4)` (R10). -/
theorem put32_be32 (a b c d : Byte) (rest : Buffer) : put32 (be32 (a :: b :: c :: d :: rest) 0) = [a, b, c, d] := by
  have := a.isLt
  have := b.isLt
  have := c.isLt
  have := d.isLt
  simp only [put32, be32, byteAt, List.getD_cons_zero, List.getD_cons_succ, List.cons.injEq, and_true]
  refine ⟨?_, ?_, ?_, ?_⟩ <;> apply BitVec.eq_of_toNat_eq <;> simp <;> omega

@[simp] theorem byteAt_zero (a : Byte) (rest : Buffer) : byteAt (a :: rest) 0 = a := rfl

@[simp] theorem byteAt_succ (a : Byte) (rest : Buffer) (i : Nat) : byteAt (a :: rest) (i + 1) = byteAt rest i := rfl

/-- A field one byte further is the field of the rest of the buffer. -/
@[simp] theorem be16_succ (a : Byte) (rest : Buffer) (i : Nat) : be16 (a :: rest) (i + 1) = be16 rest i := rfl

@[simp] theorem be32_succ (a : Byte) (rest : Buffer) (i : Nat) : be32 (a :: rest) (i + 1) = be32 rest i := rfl

@[simp] theorem hiNibble_nibbles (hi lo : BitVec 4) : hiNibble (nibbles hi lo) = hi := by
  apply BitVec.eq_of_toNat_eq
  have := hi.isLt
  have := lo.isLt
  simp [hiNibble, nibbles]; omega

@[simp] theorem loNibble_nibbles (hi lo : BitVec 4) : loNibble (nibbles hi lo) = lo := by
  apply BitVec.eq_of_toNat_eq
  have := hi.isLt
  have := lo.isLt
  simp [loNibble, nibbles]; omega

@[simp] theorem nibbles_of_byte (b : Byte) : nibbles (hiNibble b) (loNibble b) = b := by
  apply BitVec.eq_of_toNat_eq
  have := b.isLt
  simp [hiNibble, loNibble, nibbles]; omega

@[simp] theorem hiNibble_offsetByte (d : BitVec 4) (r : BitVec 3) (n : BitVec 1) : hiNibble (offsetByte d r n) = d := by
  apply BitVec.eq_of_toNat_eq
  have := d.isLt
  have := r.isLt
  have := n.isLt
  simp only [hiNibble, offsetByte, BitVec.toNat_ofNat]; omega

@[simp] theorem reservedBits_offsetByte (d : BitVec 4) (r : BitVec 3) (n : BitVec 1) :
    reservedBits (offsetByte d r n) = r := by
  apply BitVec.eq_of_toNat_eq
  have := d.isLt
  have := r.isLt
  have := n.isLt
  simp only [reservedBits, offsetByte, BitVec.toNat_ofNat]; omega

@[simp] theorem nsBit_offsetByte (d : BitVec 4) (r : BitVec 3) (n : BitVec 1) : nsBit (offsetByte d r n) = n := by
  apply BitVec.eq_of_toNat_eq
  have := d.isLt
  have := r.isLt
  have := n.isLt
  simp only [nsBit, offsetByte, BitVec.toNat_ofNat]; omega

@[simp] theorem offsetByte_of_byte (b : Byte) : offsetByte (hiNibble b) (reservedBits b) (nsBit b) = b := by
  apply BitVec.eq_of_toNat_eq
  have := b.isLt
  simp only [hiNibble, reservedBits, nsBit, offsetByte, BitVec.toNat_ofNat]; omega

@[simp] theorem packIpv4_length (h : IPv4Header) : (packIpv4 h).length = 20 := rfl

@[simp] theorem packTcp_length (t : TCPHeader) : (packTcp t).length = 20 := rfl

@[simp] theorem pseudoHeader_length (src dst : U32) (n : Nat) : (pseudoHeader src dst n).length = 12 := rfl

/-- Storing a 16-bit value inside a buffer keeps its length. -/
theorem memWrite16_length (B : Buffer) (i : Nat) (v : U16) (h : i + 2 ≤ B.length) :
    (memWrite16 B i v).length = B.length := by
  simp [memWrite16]; omega

@[simp] theorem buildIpv4_length (n : Nat) (ipId : U16) (src dst : U32) : (buildIpv4 n ipId src dst).length = 20 := rfl

@[simp] theorem buildTcp_length (sp dp : U16) (seq ack : U32) (flags : Byte) (window : U16) (src dst : U32)
    (payload : Buffer) : (buildTcp sp dp seq ack flags window src dst payload).length = 20 := rfl

/-- Storing the checksum in a packed header is packing the header with that checksum (R141, R143). -/
theorem memWrite16_packIpv4 (h : IPv4Header) (v : U16) :
    memWrite16 (packIpv4 h) 10 v = packIpv4 { h with checksum := v } := rfl

/-- Storing the checksum in a packed header is packing the header with that checksum (R145, R147). -/
theorem memWrite16_packTcp (t : TCPHeader) (v : U16) :
    memWrite16 (packTcp t) 16 v = packTcp { t with checksum := v } := rfl

/-- `B[i..i+k)` holds `k` bytes where the buffer reaches that far. -/
theorem slice_length (B : Buffer) (i k : Nat) (h : i + k ≤ B.length) : (slice B i (i + k)).length = k := by
  simp [slice]; omega

end Sys2Proof.Laws
end

