-- ==== Sys2Proof/Laws/PerInstr.lean ====
section
/-! SUPPORT. Statements made operation by operation, one lemma a constructor. FitsRow: what the encoder presents for a
well-formed operation has the length and the fixed bits of its row of spec/opcode_table.json (R105), and an operation
has an encoding exactly when its row has one. -/

namespace Sys2Proof.Laws

open Sys2Proof.Machine

/-- The encoder against the table's row. -/
def FitsRow.Statement (i : Instr) : Prop :=
  ∀ params : OpenParams, wellFormed params i = true →
    match encode i, tableRow i with
    | some p, some row => fitsRow row (rowBytes p) = true
    | none, none => True
    | _, _ => False

/-- Twenty letter bytes fit any twenty bytes. -/
theorem fitsRow_letters (n : Nat) (B : Buffer) (h : B.length = n) : fitsRow (List.replicate n letters) B = true := by
  induction n generalizing B with
  | zero => cases B <;> simp_all [fitsRow]
  | succ n ih =>
    cases B with
    | nil => simp at h
    | cons b B =>
      have hb : b &&& (0x00 : Byte) = 0x00 := BitVec.and_zero
      simp only [List.replicate_succ, letters, fitsRow, hb, beq_self_eq_true, Bool.true_and]
      exact ih B (by simpa using h)

/-- A byte fits the row that fixes it. -/
theorem fitsRow_fixed (b : Byte) : fitsRow [fixed b] [b] = true := by
  have h : b &&& 255#8 = b := BitVec.and_allOnes
  simp [fitsRow, fixed, h]

/-- A byte fits a row of one mask and match when it shows the match under the mask. -/
theorem fitsRow_masked (mask pattern b : Byte) (h : (b &&& mask == pattern) = true) :
    fitsRow [(mask, pattern)] [b] = true := by
  simpa [fitsRow] using h

namespace FitsRow

theorem connect (a : U32) (p : U16) : Statement (.connect a p) :=
  fun _ _ => fitsRow_fixed 0x01
theorem send (data : Buffer) : Statement (.send data) :=
  fun _ _ => fitsRow_fixed 0x02
theorem closeEstablished : Statement .closeEstablished :=
  fun _ _ => fitsRow_fixed 0x03
theorem closeRelease : Statement .closeRelease :=
  fun _ _ => fitsRow_fixed 0x03
theorem run : Statement .run :=
  fun _ _ => fitsRow_fixed 0x04
theorem cmdReserved (opcode : Byte) : Statement (.cmdReserved opcode) := fun _ _ => fitsRow_letters 1 [opcode] rfl
theorem txSyn : Statement .txSyn :=
  fun _ _ => fitsRow_fixed 0x02
theorem txAck : Statement .txAck :=
  fun _ _ => fitsRow_fixed 0x10
theorem txFinack : Statement .txFinack :=
  fun _ _ => fitsRow_fixed 0x11
theorem txPshack (payload : Buffer) : Statement (.txPshack payload) :=
  fun _ _ => fitsRow_fixed 0x18

theorem rxSynsentSynack (tcp : TCPHeader) (payload : Buffer) : Statement (.rxSynsentSynack tcp payload) :=
  fun _ h => fitsRow_masked 0x12 0x12 tcp.flags h

theorem rxEstData (tcp : TCPHeader) (payload : Buffer) : Statement (.rxEstData tcp payload) :=
  fun _ _ => fitsRow_letters 1 [tcp.flags] rfl

theorem rxEstFin (tcp : TCPHeader) (payload : Buffer) : Statement (.rxEstFin tcp payload) :=
  fun _ h => fitsRow_masked 0x01 0x01 tcp.flags h

theorem rxLastackAck (tcp : TCPHeader) (payload : Buffer) : Statement (.rxLastackAck tcp payload) :=
  fun _ h => fitsRow_masked 0x10 0x10 tcp.flags h

theorem rxIgnore (tcp : TCPHeader) (payload : Buffer) : Statement (.rxIgnore tcp payload) :=
  fun _ _ => fitsRow_letters 1 [tcp.flags] rfl

theorem packIpv4 (h : IPv4Header) : Statement (.packIpv4 h) := fun _ _ => fitsRow_letters 20 _ rfl

theorem decIpv4 (B : Buffer) : Statement (.decIpv4 B) := by
  intro _ h
  have : 20 ≤ B.length := by simpa [wellFormed] using h
  exact fitsRow_letters 20 (B.take 20) (by simp; omega)

theorem encIpv4 (n : Nat) (ipId : U16) (src dst : U32) : Statement (.encIpv4 n ipId src dst) := by
  intro _ _
  show fitsRow _ (buildIpv4 n ipId src dst) = true
  rw [buildIpv4, memWrite16_packIpv4]
  generalize internetChecksum _ = c
  simp [Machine.packIpv4, bareIpv4, nibbles, put16, put32, fitsRow, fixed, letters, List.replicate]

theorem packTcp (t : TCPHeader) : Statement (.packTcp t) := fun _ _ => fitsRow_letters 20 _ rfl

theorem decTcp (T : Buffer) : Statement (.decTcp T) := by
  intro _ h
  have : 20 ≤ T.length := by simpa [wellFormed] using h
  exact fitsRow_letters 20 (T.take 20) (by simp; omega)

theorem encTcp (sp dp : U16) (seq ack : U32) (flags : Byte) (window : U16) (src dst : U32) (P : Buffer) :
    Statement (.encTcp sp dp seq ack flags window src dst P) := by
  intro _ h
  have hf : flags &&& 0xE4#8 = 0x00#8 := by simpa using (Bool.and_eq_true_iff.mp h).1
  show fitsRow _ (buildTcp sp dp seq ack flags window src dst P) = true
  rw [buildTcp, memWrite16_packTcp]
  generalize tcpChecksum _ _ _ _ = c
  simp [Machine.packTcp, bareTcp, offsetByte, put16, put32, fitsRow, fixed, letters, List.replicate, hf]

theorem pseudo (src dst : U32) (n : Nat) : Statement (.pseudo src dst n) := by
  intro _ _
  simp [encode, tableRow, rowBytes, pseudoHeader, put16, put32, fitsRow, fixed, letters, List.replicate]

theorem ocsum (B : Buffer) : Statement (.ocsum B) := fun _ _ => trivial
theorem csum (B : Buffer) : Statement (.csum B) := fun _ _ => trivial
theorem csumok (B : Buffer) : Statement (.csumok B) := fun _ _ => trivial
theorem tcpcsum (H : Buffer) (src dst : U32) (P : Buffer) : Statement (.tcpcsum H src dst P) := fun _ _ => trivial
theorem decDgram (B : Buffer) : Statement (.decDgram B) := fun _ _ => trivial
theorem filterIp (ip : IPv4Header) : Statement (.filterIp ip) := fun _ _ => trivial
theorem filterPort (tcp : TCPHeader) : Statement (.filterPort tcp) := fun _ _ => trivial
theorem handle (tcp : TCPHeader) (payload : Buffer) : Statement (.handle tcp payload) := fun _ _ => trivial
theorem sendseg (flags : Byte) (payload : Buffer) : Statement (.sendseg flags payload) := fun _ _ => trivial
theorem rxDatagram (B : Buffer) : Statement (.rxDatagram B) := fun _ _ => trivial
theorem rxTimeout : Statement .rxTimeout := fun _ _ => trivial
theorem rxError : Statement .rxError := fun _ _ => trivial
theorem reset : Statement .reset := fun _ _ => trivial

end FitsRow

end Sys2Proof.Laws
end

