-- ==== Sys2Proof/Laws/State.lean ====
section
/-! SUPPORT. One lemma per field per named update of the state, and the frames of the draws, so that no proof unfolds a
record update. -/

namespace Sys2Proof.Laws

open Sys2Proof.Machine

/-! `setTcpState`, field by field. -/

@[simp] theorem setTcpState_params (st : TcpState) (s : State) : (setTcpState st s).params = s.params := rfl
@[simp] theorem setTcpState_ccb (st : TcpState) (s : State) :
    (setTcpState st s).ccb = { s.ccb with state := st } := rfl
@[simp] theorem setTcpState_runEn (st : TcpState) (s : State) : (setTcpState st s).runEn = s.runEn := rfl
@[simp] theorem setTcpState_cmdPort (st : TcpState) (s : State) : (setTcpState st s).cmdPort = s.cmdPort := rfl
@[simp] theorem setTcpState_rxPort (st : TcpState) (s : State) : (setTcpState st s).rxPort = s.rxPort := rfl
@[simp] theorem setTcpState_boundaries (st : TcpState) (s : State) :
    (setTcpState st s).boundaries = s.boundaries := rfl
@[simp] theorem setTcpState_connectDraws (st : TcpState) (s : State) :
    (setTcpState st s).connectDraws = s.connectDraws := rfl
@[simp] theorem setTcpState_transmitDraws (st : TcpState) (s : State) :
    (setTcpState st s).transmitDraws = s.transmitDraws := rfl
@[simp] theorem setTcpState_tick (st : TcpState) (s : State) : (setTcpState st s).tick = s.tick := rfl
@[simp] theorem setTcpState_outputs (st : TcpState) (s : State) : (setTcpState st s).outputs = s.outputs := rfl
@[simp] theorem setTcpState_result (st : TcpState) (s : State) : (setTcpState st s).result = s.result := rfl

/-! `setCcb`, field by field. -/

@[simp] theorem setCcb_params (c : Ccb) (s : State) : (setCcb c s).params = s.params := rfl
@[simp] theorem setCcb_ccb (c : Ccb) (s : State) : (setCcb c s).ccb = c := rfl
@[simp] theorem setCcb_runEn (c : Ccb) (s : State) : (setCcb c s).runEn = s.runEn := rfl
@[simp] theorem setCcb_cmdPort (c : Ccb) (s : State) : (setCcb c s).cmdPort = s.cmdPort := rfl
@[simp] theorem setCcb_rxPort (c : Ccb) (s : State) : (setCcb c s).rxPort = s.rxPort := rfl
@[simp] theorem setCcb_boundaries (c : Ccb) (s : State) : (setCcb c s).boundaries = s.boundaries := rfl
@[simp] theorem setCcb_connectDraws (c : Ccb) (s : State) : (setCcb c s).connectDraws = s.connectDraws := rfl
@[simp] theorem setCcb_transmitDraws (c : Ccb) (s : State) : (setCcb c s).transmitDraws = s.transmitDraws := rfl
@[simp] theorem setCcb_tick (c : Ccb) (s : State) : (setCcb c s).tick = s.tick := rfl
@[simp] theorem setCcb_outputs (c : Ccb) (s : State) : (setCcb c s).outputs = s.outputs := rfl
@[simp] theorem setCcb_result (c : Ccb) (s : State) : (setCcb c s).result = s.result := rfl

/-! `setRunEn`, field by field. -/

@[simp] theorem setRunEn_params (b : Bool) (s : State) : (setRunEn b s).params = s.params := rfl
@[simp] theorem setRunEn_ccb (b : Bool) (s : State) : (setRunEn b s).ccb = s.ccb := rfl
@[simp] theorem setRunEn_runEn (b : Bool) (s : State) : (setRunEn b s).runEn = b := rfl
@[simp] theorem setRunEn_cmdPort (b : Bool) (s : State) : (setRunEn b s).cmdPort = s.cmdPort := rfl
@[simp] theorem setRunEn_rxPort (b : Bool) (s : State) : (setRunEn b s).rxPort = s.rxPort := rfl
@[simp] theorem setRunEn_boundaries (b : Bool) (s : State) : (setRunEn b s).boundaries = s.boundaries := rfl
@[simp] theorem setRunEn_connectDraws (b : Bool) (s : State) : (setRunEn b s).connectDraws = s.connectDraws := rfl
@[simp] theorem setRunEn_transmitDraws (b : Bool) (s : State) : (setRunEn b s).transmitDraws = s.transmitDraws := rfl
@[simp] theorem setRunEn_tick (b : Bool) (s : State) : (setRunEn b s).tick = s.tick := rfl
@[simp] theorem setRunEn_outputs (b : Bool) (s : State) : (setRunEn b s).outputs = s.outputs := rfl
@[simp] theorem setRunEn_result (b : Bool) (s : State) : (setRunEn b s).result = s.result := rfl

/-! `emit`, field by field. -/

@[simp] theorem emit_params (e : OutEvent) (s : State) : (emit e s).params = s.params := rfl
@[simp] theorem emit_ccb (e : OutEvent) (s : State) : (emit e s).ccb = s.ccb := rfl
@[simp] theorem emit_runEn (e : OutEvent) (s : State) : (emit e s).runEn = s.runEn := rfl
@[simp] theorem emit_cmdPort (e : OutEvent) (s : State) : (emit e s).cmdPort = s.cmdPort := rfl
@[simp] theorem emit_rxPort (e : OutEvent) (s : State) : (emit e s).rxPort = s.rxPort := rfl
@[simp] theorem emit_boundaries (e : OutEvent) (s : State) : (emit e s).boundaries = s.boundaries := rfl
@[simp] theorem emit_connectDraws (e : OutEvent) (s : State) : (emit e s).connectDraws = s.connectDraws := rfl
@[simp] theorem emit_transmitDraws (e : OutEvent) (s : State) : (emit e s).transmitDraws = s.transmitDraws := rfl
@[simp] theorem emit_tick (e : OutEvent) (s : State) : (emit e s).tick = s.tick := rfl
@[simp] theorem emit_outputs (e : OutEvent) (s : State) : (emit e s).outputs = s.outputs ++ [e] := rfl
@[simp] theorem emit_result (e : OutEvent) (s : State) : (emit e s).result = s.result := rfl

/-! `setResult`, field by field. -/

@[simp] theorem setResult_params (r : UnitResult) (s : State) : (setResult r s).params = s.params := rfl
@[simp] theorem setResult_ccb (r : UnitResult) (s : State) : (setResult r s).ccb = s.ccb := rfl
@[simp] theorem setResult_runEn (r : UnitResult) (s : State) : (setResult r s).runEn = s.runEn := rfl
@[simp] theorem setResult_cmdPort (r : UnitResult) (s : State) : (setResult r s).cmdPort = s.cmdPort := rfl
@[simp] theorem setResult_rxPort (r : UnitResult) (s : State) : (setResult r s).rxPort = s.rxPort := rfl
@[simp] theorem setResult_boundaries (r : UnitResult) (s : State) : (setResult r s).boundaries = s.boundaries := rfl
@[simp] theorem setResult_connectDraws (r : UnitResult) (s : State) :
    (setResult r s).connectDraws = s.connectDraws := rfl
@[simp] theorem setResult_transmitDraws (r : UnitResult) (s : State) :
    (setResult r s).transmitDraws = s.transmitDraws := rfl
@[simp] theorem setResult_tick (r : UnitResult) (s : State) : (setResult r s).tick = s.tick := rfl
@[simp] theorem setResult_outputs (r : UnitResult) (s : State) : (setResult r s).outputs = s.outputs := rfl
@[simp] theorem setResult_result (r : UnitResult) (s : State) : (setResult r s).result = some r := rfl

/-! `advanceReceive`, field by field. -/

@[simp] theorem advanceReceive_params (n : Nat) (s : State) : (advanceReceive n s).params = s.params := rfl
@[simp] theorem advanceReceive_ccb (n : Nat) (s : State) :
    (advanceReceive n s).ccb = { s.ccb with recvSeq := seqAdd s.ccb.recvSeq n, sendAck := seqAdd s.ccb.sendAck n } := rfl
@[simp] theorem advanceReceive_runEn (n : Nat) (s : State) : (advanceReceive n s).runEn = s.runEn := rfl
@[simp] theorem advanceReceive_cmdPort (n : Nat) (s : State) : (advanceReceive n s).cmdPort = s.cmdPort := rfl
@[simp] theorem advanceReceive_rxPort (n : Nat) (s : State) : (advanceReceive n s).rxPort = s.rxPort := rfl
@[simp] theorem advanceReceive_boundaries (n : Nat) (s : State) :
    (advanceReceive n s).boundaries = s.boundaries := rfl
@[simp] theorem advanceReceive_connectDraws (n : Nat) (s : State) :
    (advanceReceive n s).connectDraws = s.connectDraws := rfl
@[simp] theorem advanceReceive_transmitDraws (n : Nat) (s : State) :
    (advanceReceive n s).transmitDraws = s.transmitDraws := rfl
@[simp] theorem advanceReceive_tick (n : Nat) (s : State) : (advanceReceive n s).tick = s.tick := rfl
@[simp] theorem advanceReceive_outputs (n : Nat) (s : State) : (advanceReceive n s).outputs = s.outputs := rfl
@[simp] theorem advanceReceive_result (n : Nat) (s : State) : (advanceReceive n s).result = s.result := rfl

/-! `recordSend`, field by field. -/

@[simp] theorem recordSend_params (n : Nat) (t : Nat) (s : State) : (recordSend n t s).params = s.params := rfl
@[simp] theorem recordSend_ccb (n : Nat) (t : Nat) (s : State) :
    (recordSend n t s).ccb = { s.ccb with sendSeq := seqAdd s.ccb.sendSeq n, lastSent := t } := rfl
@[simp] theorem recordSend_runEn (n : Nat) (t : Nat) (s : State) :
    (recordSend n t s).runEn = s.runEn := rfl
@[simp] theorem recordSend_cmdPort (n : Nat) (t : Nat) (s : State) :
    (recordSend n t s).cmdPort = s.cmdPort := rfl
@[simp] theorem recordSend_rxPort (n : Nat) (t : Nat) (s : State) :
    (recordSend n t s).rxPort = s.rxPort := rfl
@[simp] theorem recordSend_boundaries (n : Nat) (t : Nat) (s : State) :
    (recordSend n t s).boundaries = s.boundaries := rfl
@[simp] theorem recordSend_connectDraws (n : Nat) (t : Nat) (s : State) :
    (recordSend n t s).connectDraws = s.connectDraws := rfl
@[simp] theorem recordSend_transmitDraws (n : Nat) (t : Nat) (s : State) :
    (recordSend n t s).transmitDraws = s.transmitDraws := rfl
@[simp] theorem recordSend_tick (n : Nat) (t : Nat) (s : State) :
    (recordSend n t s).tick = s.tick := rfl
@[simp] theorem recordSend_outputs (n : Nat) (t : Nat) (s : State) :
    (recordSend n t s).outputs = s.outputs := rfl
@[simp] theorem recordSend_result (n : Nat) (t : Nat) (s : State) :
    (recordSend n t s).result = s.result := rfl

/-! `respondOk`, field by field. -/

@[simp] theorem respondOk_params (s : State) : (respondOk s).params = s.params := rfl
@[simp] theorem respondOk_ccb (s : State) : (respondOk s).ccb = s.ccb := rfl
@[simp] theorem respondOk_runEn (s : State) : (respondOk s).runEn = s.runEn := rfl
@[simp] theorem respondOk_cmdPort (s : State) : (respondOk s).cmdPort = s.cmdPort := rfl
@[simp] theorem respondOk_rxPort (s : State) : (respondOk s).rxPort = s.rxPort := rfl
@[simp] theorem respondOk_boundaries (s : State) : (respondOk s).boundaries = s.boundaries := rfl
@[simp] theorem respondOk_connectDraws (s : State) : (respondOk s).connectDraws = s.connectDraws := rfl
@[simp] theorem respondOk_transmitDraws (s : State) : (respondOk s).transmitDraws = s.transmitDraws := rfl
@[simp] theorem respondOk_tick (s : State) : (respondOk s).tick = s.tick := rfl
@[simp] theorem respondOk_outputs (s : State) : (respondOk s).outputs = s.outputs ++ [.response .ok none] := rfl
@[simp] theorem respondOk_result (s : State) : (respondOk s).result = s.result := rfl

/-! `respondCount`, field by field. -/

@[simp] theorem respondCount_params (n : Nat) (s : State) : (respondCount n s).params = s.params := rfl
@[simp] theorem respondCount_ccb (n : Nat) (s : State) : (respondCount n s).ccb = s.ccb := rfl
@[simp] theorem respondCount_runEn (n : Nat) (s : State) : (respondCount n s).runEn = s.runEn := rfl
@[simp] theorem respondCount_cmdPort (n : Nat) (s : State) : (respondCount n s).cmdPort = s.cmdPort := rfl
@[simp] theorem respondCount_rxPort (n : Nat) (s : State) : (respondCount n s).rxPort = s.rxPort := rfl
@[simp] theorem respondCount_boundaries (n : Nat) (s : State) : (respondCount n s).boundaries = s.boundaries := rfl
@[simp] theorem respondCount_connectDraws (n : Nat) (s : State) :
    (respondCount n s).connectDraws = s.connectDraws := rfl
@[simp] theorem respondCount_transmitDraws (n : Nat) (s : State) :
    (respondCount n s).transmitDraws = s.transmitDraws := rfl
@[simp] theorem respondCount_tick (n : Nat) (s : State) : (respondCount n s).tick = s.tick := rfl
@[simp] theorem respondCount_outputs (n : Nat) (s : State) :
    (respondCount n s).outputs = s.outputs ++ [.response .ok (some n)] := rfl
@[simp] theorem respondCount_result (n : Nat) (s : State) : (respondCount n s).result = s.result := rfl

/-! `raiseStatus`, field by field. -/

@[simp] theorem raiseStatus_params (k : Status) (s : State) : (raiseStatus k s).params = s.params := rfl
@[simp] theorem raiseStatus_ccb (k : Status) (s : State) : (raiseStatus k s).ccb = s.ccb := rfl
@[simp] theorem raiseStatus_runEn (k : Status) (s : State) : (raiseStatus k s).runEn = s.runEn := rfl
@[simp] theorem raiseStatus_cmdPort (k : Status) (s : State) : (raiseStatus k s).cmdPort = s.cmdPort := rfl
@[simp] theorem raiseStatus_rxPort (k : Status) (s : State) : (raiseStatus k s).rxPort = s.rxPort := rfl
@[simp] theorem raiseStatus_boundaries (k : Status) (s : State) : (raiseStatus k s).boundaries = s.boundaries := rfl
@[simp] theorem raiseStatus_connectDraws (k : Status) (s : State) :
    (raiseStatus k s).connectDraws = s.connectDraws := rfl
@[simp] theorem raiseStatus_transmitDraws (k : Status) (s : State) :
    (raiseStatus k s).transmitDraws = s.transmitDraws := rfl
@[simp] theorem raiseStatus_tick (k : Status) (s : State) : (raiseStatus k s).tick = s.tick := rfl
@[simp] theorem raiseStatus_outputs (k : Status) (s : State) :
    (raiseStatus k s).outputs = s.outputs ++ [.response k none] := rfl
@[simp] theorem raiseStatus_result (k : Status) (s : State) : (raiseStatus k s).result = s.result := rfl

/-! `giveVerdict`, field by field. -/

@[simp] theorem giveVerdict_params (v : Verdict) (s : State) : (giveVerdict v s).params = s.params := rfl
@[simp] theorem giveVerdict_ccb (v : Verdict) (s : State) : (giveVerdict v s).ccb = s.ccb := rfl
@[simp] theorem giveVerdict_runEn (v : Verdict) (s : State) : (giveVerdict v s).runEn = s.runEn := rfl
@[simp] theorem giveVerdict_cmdPort (v : Verdict) (s : State) : (giveVerdict v s).cmdPort = s.cmdPort := rfl
@[simp] theorem giveVerdict_rxPort (v : Verdict) (s : State) : (giveVerdict v s).rxPort = s.rxPort := rfl
@[simp] theorem giveVerdict_boundaries (v : Verdict) (s : State) : (giveVerdict v s).boundaries = s.boundaries := rfl
@[simp] theorem giveVerdict_connectDraws (v : Verdict) (s : State) :
    (giveVerdict v s).connectDraws = s.connectDraws := rfl
@[simp] theorem giveVerdict_transmitDraws (v : Verdict) (s : State) :
    (giveVerdict v s).transmitDraws = s.transmitDraws := rfl
@[simp] theorem giveVerdict_tick (v : Verdict) (s : State) : (giveVerdict v s).tick = s.tick := rfl
@[simp] theorem giveVerdict_outputs (v : Verdict) (s : State) :
    (giveVerdict v s).outputs = s.outputs ++ [.verdict v] := rfl
@[simp] theorem giveVerdict_result (v : Verdict) (s : State) : (giveVerdict v s).result = s.result := rfl

/-! `release`, field by field. -/

@[simp] theorem release_params (s : State) : (release s).params = s.params := rfl
@[simp] theorem release_ccb (s : State) : (release s).ccb = { s.ccb with state := .closed } := rfl
@[simp] theorem release_runEn (s : State) : (release s).runEn = false := rfl
@[simp] theorem release_cmdPort (s : State) : (release s).cmdPort = s.cmdPort := rfl
@[simp] theorem release_rxPort (s : State) : (release s).rxPort = s.rxPort := rfl
@[simp] theorem release_boundaries (s : State) : (release s).boundaries = s.boundaries := rfl
@[simp] theorem release_connectDraws (s : State) : (release s).connectDraws = s.connectDraws := rfl
@[simp] theorem release_transmitDraws (s : State) : (release s).transmitDraws = s.transmitDraws := rfl
@[simp] theorem release_tick (s : State) : (release s).tick = s.tick := rfl
@[simp] theorem release_outputs (s : State) : (release s).outputs = s.outputs := rfl
@[simp] theorem release_result (s : State) : (release s).result = s.result := rfl

/-! `drawConnect` changes only its own list and the count of free values. -/

@[simp] theorem drawConnect_params (s : State) : (drawConnect s).2.params = s.params := by
  unfold drawConnect; split <;> rfl
@[simp] theorem drawConnect_ccb (s : State) : (drawConnect s).2.ccb = s.ccb := by
  unfold drawConnect; split <;> rfl
@[simp] theorem drawConnect_runEn (s : State) : (drawConnect s).2.runEn = s.runEn := by
  unfold drawConnect; split <;> rfl
@[simp] theorem drawConnect_cmdPort (s : State) : (drawConnect s).2.cmdPort = s.cmdPort := by
  unfold drawConnect; split <;> rfl
@[simp] theorem drawConnect_rxPort (s : State) : (drawConnect s).2.rxPort = s.rxPort := by
  unfold drawConnect; split <;> rfl
@[simp] theorem drawConnect_boundaries (s : State) : (drawConnect s).2.boundaries = s.boundaries := by
  unfold drawConnect; split <;> rfl
@[simp] theorem drawConnect_transmitDraws (s : State) : (drawConnect s).2.transmitDraws = s.transmitDraws := by
  unfold drawConnect; split <;> rfl
@[simp] theorem drawConnect_outputs (s : State) : (drawConnect s).2.outputs = s.outputs := by
  unfold drawConnect; split <;> rfl
@[simp] theorem drawConnect_result (s : State) : (drawConnect s).2.result = s.result := by
  unfold drawConnect; split <;> rfl

/-! `drawTransmit` changes only its own list and the count of free values. -/

@[simp] theorem drawTransmit_params (s : State) : (drawTransmit s).2.params = s.params := by
  unfold drawTransmit; split <;> rfl
@[simp] theorem drawTransmit_ccb (s : State) : (drawTransmit s).2.ccb = s.ccb := by
  unfold drawTransmit; split <;> rfl
@[simp] theorem drawTransmit_runEn (s : State) : (drawTransmit s).2.runEn = s.runEn := by
  unfold drawTransmit; split <;> rfl
@[simp] theorem drawTransmit_cmdPort (s : State) : (drawTransmit s).2.cmdPort = s.cmdPort := by
  unfold drawTransmit; split <;> rfl
@[simp] theorem drawTransmit_rxPort (s : State) : (drawTransmit s).2.rxPort = s.rxPort := by
  unfold drawTransmit; split <;> rfl
@[simp] theorem drawTransmit_boundaries (s : State) : (drawTransmit s).2.boundaries = s.boundaries := by
  unfold drawTransmit; split <;> rfl
@[simp] theorem drawTransmit_connectDraws (s : State) : (drawTransmit s).2.connectDraws = s.connectDraws := by
  unfold drawTransmit; split <;> rfl
@[simp] theorem drawTransmit_outputs (s : State) : (drawTransmit s).2.outputs = s.outputs := by
  unfold drawTransmit; split <;> rfl
@[simp] theorem drawTransmit_result (s : State) : (drawTransmit s).2.result = s.result := by
  unfold drawTransmit; split <;> rfl

/-- The timestamp an answer brings is W_TS bits (R64). -/
theorem drawTransmit_now_lt (s : State) : (drawTransmit s).1.now < 2 ^ s.params.wTs := by
  unfold drawTransmit; split <;> exact Nat.mod_lt _ (Nat.two_pow_pos _)

/-! `drawBoundary` changes only its own list and the count of free values. -/

@[simp] theorem drawBoundary_params (s : State) : (drawBoundary s).2.params = s.params := by
  unfold drawBoundary; split <;> rfl
@[simp] theorem drawBoundary_ccb (s : State) : (drawBoundary s).2.ccb = s.ccb := by
  unfold drawBoundary; split <;> rfl
@[simp] theorem drawBoundary_runEn (s : State) : (drawBoundary s).2.runEn = s.runEn := by
  unfold drawBoundary; split <;> rfl
@[simp] theorem drawBoundary_cmdPort (s : State) : (drawBoundary s).2.cmdPort = s.cmdPort := by
  unfold drawBoundary; split <;> rfl
@[simp] theorem drawBoundary_rxPort (s : State) : (drawBoundary s).2.rxPort = s.rxPort := by
  unfold drawBoundary; split <;> rfl
@[simp] theorem drawBoundary_connectDraws (s : State) : (drawBoundary s).2.connectDraws = s.connectDraws := by
  unfold drawBoundary; split <;> rfl
@[simp] theorem drawBoundary_transmitDraws (s : State) : (drawBoundary s).2.transmitDraws = s.transmitDraws := by
  unfold drawBoundary; split <;> rfl
@[simp] theorem drawBoundary_outputs (s : State) : (drawBoundary s).2.outputs = s.outputs := by
  unfold drawBoundary; split <;> rfl
@[simp] theorem drawBoundary_result (s : State) : (drawBoundary s).2.result = s.result := by
  unfold drawBoundary; split <;> rfl

/-! What the environment answers depends on its own list and on the count of free values alone: the named updates that
leave those two alone change neither the answer nor what drawing does. -/

@[simp] theorem drawTransmit_of_setTcpState (st : TcpState) (s : State) :
    drawTransmit (setTcpState st s) = ((drawTransmit s).1, setTcpState st (drawTransmit s).2) := by
  cases h : s.transmitDraws <;> simp [drawTransmit, setTcpState, h]
@[simp] theorem drawTransmit_of_setCcb (c : Ccb) (s : State) :
    drawTransmit (setCcb c s) = ((drawTransmit s).1, setCcb c (drawTransmit s).2) := by
  cases h : s.transmitDraws <;> simp [drawTransmit, setCcb, h]
@[simp] theorem drawTransmit_of_setRunEn (b : Bool) (s : State) :
    drawTransmit (setRunEn b s) = ((drawTransmit s).1, setRunEn b (drawTransmit s).2) := by
  cases h : s.transmitDraws <;> simp [drawTransmit, setRunEn, h]
@[simp] theorem drawTransmit_of_emit (e : OutEvent) (s : State) :
    drawTransmit (emit e s) = ((drawTransmit s).1, emit e (drawTransmit s).2) := by
  cases h : s.transmitDraws <;> simp [drawTransmit, emit, h]
@[simp] theorem drawTransmit_of_advanceReceive (n : Nat) (s : State) :
    drawTransmit (advanceReceive n s) = ((drawTransmit s).1, advanceReceive n (drawTransmit s).2) := by
  cases h : s.transmitDraws <;> simp [drawTransmit, advanceReceive, h]
@[simp] theorem drawTransmit_of_recordSend (space : Nat) (now : Nat) (s : State) :
    drawTransmit (recordSend space now s) = ((drawTransmit s).1, recordSend space now (drawTransmit s).2) := by
  cases h : s.transmitDraws <;> simp [drawTransmit, recordSend, h]

end Sys2Proof.Laws
end

