-- ==== Sys2Proof/Laws/Transmit.lean ====
section
/-! SUPPORT. Everything SENDSEG can do (spec 43_send_path.md R200, R204, R205), once; its frame, field by field. -/

namespace Sys2Proof.Laws

open Sys2Proof.Machine

/-- A transmission the transport accepts (R204). -/
theorem sendSegment_sent (flags : Byte) (payload : Buffer) (s : State) (h : (drawTransmit s).1.txOk = true) :
    sendSegment flags payload s = (true,
      recordSend (sequenceSpace flags payload.length) (drawTransmit s).1.now
        (emit (.tx (datagramOf s.ccb (drawTransmit s).1.ipId flags payload)) (drawTransmit s).2)) := by
  simp [sendSegment, h]

/-- A transmission the transport refuses writes nothing (R205). -/
theorem sendSegment_failed (flags : Byte) (payload : Buffer) (s : State) (h : (drawTransmit s).1.txOk = false) :
    sendSegment flags payload s = (false, (drawTransmit s).2) := by
  simp [sendSegment, h]

/-- Inversion: SENDSEG either sent one datagram or changed nothing but the draws. -/
theorem sendSegment_cases (flags : Byte) (payload : Buffer) (s : State) :
    ((drawTransmit s).1.txOk = true ∧ sendSegment flags payload s = (true,
      recordSend (sequenceSpace flags payload.length) (drawTransmit s).1.now
        (emit (.tx (datagramOf s.ccb (drawTransmit s).1.ipId flags payload)) (drawTransmit s).2))) ∨
    ((drawTransmit s).1.txOk = false ∧ sendSegment flags payload s = (false, (drawTransmit s).2)) := by
  cases h : (drawTransmit s).1.txOk
  · exact .inr ⟨rfl, sendSegment_failed flags payload s h⟩
  · exact .inl ⟨rfl, sendSegment_sent flags payload s h⟩

/-- SENDSEG writes only `send_seq` and `last_sent` of the CCB (R200). -/
theorem sendSegment_ccb (flags : Byte) (payload : Buffer) (s : State) :
    (sendSegment flags payload s).2.ccb =
      { s.ccb with
        sendSeq := (sendSegment flags payload s).2.ccb.sendSeq
        lastSent := (sendSegment flags payload s).2.ccb.lastSent } := by
  rcases sendSegment_cases flags payload s with ⟨_, h⟩ | ⟨_, h⟩ <;> simp [h]

@[simp] theorem sendSegment_state (flags : Byte) (payload : Buffer) (s : State) :
    (sendSegment flags payload s).2.ccb.state = s.ccb.state := by
  rw [sendSegment_ccb]

@[simp] theorem sendSegment_params (flags : Byte) (payload : Buffer) (s : State) :
    (sendSegment flags payload s).2.params = s.params := by
  rcases sendSegment_cases flags payload s with ⟨_, h⟩ | ⟨_, h⟩ <;> simp [h]

/-- SENDSEG keeps `last_sent` within W_TS bits: it takes `now`, or is left alone (R204, R205). -/
theorem sendSegment_lastSent_lt (flags : Byte) (payload : Buffer) (s : State)
    (hs : s.ccb.lastSent < 2 ^ s.params.wTs) :
    (sendSegment flags payload s).2.ccb.lastSent < 2 ^ s.params.wTs := by
  rcases sendSegment_cases flags payload s with ⟨_, h⟩ | ⟨_, h⟩ <;> simp [h, hs, drawTransmit_now_lt]

@[simp] theorem sendSegment_runEn (flags : Byte) (payload : Buffer) (s : State) :
    (sendSegment flags payload s).2.runEn = s.runEn := by
  rcases sendSegment_cases flags payload s with ⟨_, h⟩ | ⟨_, h⟩ <;> simp [h]

@[simp] theorem sendSegment_cmdPort (flags : Byte) (payload : Buffer) (s : State) :
    (sendSegment flags payload s).2.cmdPort = s.cmdPort := by
  rcases sendSegment_cases flags payload s with ⟨_, h⟩ | ⟨_, h⟩ <;> simp [h]

@[simp] theorem sendSegment_rxPort (flags : Byte) (payload : Buffer) (s : State) :
    (sendSegment flags payload s).2.rxPort = s.rxPort := by
  rcases sendSegment_cases flags payload s with ⟨_, h⟩ | ⟨_, h⟩ <;> simp [h]

@[simp] theorem sendSegment_result (flags : Byte) (payload : Buffer) (s : State) :
    (sendSegment flags payload s).2.result = s.result := by
  rcases sendSegment_cases flags payload s with ⟨_, h⟩ | ⟨_, h⟩ <;> simp [h]

/-- The outputs of SENDSEG: one datagram when sent, none otherwise. -/
theorem sendSegment_outputs (flags : Byte) (payload : Buffer) (s : State) :
    (sendSegment flags payload s).2.outputs =
      s.outputs ++ (if (sendSegment flags payload s).1 then
        [.tx (datagramOf s.ccb (drawTransmit s).1.ipId flags payload)] else []) := by
  rcases sendSegment_cases flags payload s with ⟨_, h⟩ | ⟨_, h⟩ <;> simp [h]

/-- The sequence number after SENDSEG: advanced by the sequence space when sent, unchanged otherwise. -/
theorem sendSegment_sendSeq (flags : Byte) (payload : Buffer) (s : State) :
    (sendSegment flags payload s).2.ccb.sendSeq =
      if (sendSegment flags payload s).1 then seqAdd s.ccb.sendSeq (sequenceSpace flags payload.length)
      else s.ccb.sendSeq := by
  rcases sendSegment_cases flags payload s with ⟨_, h⟩ | ⟨_, h⟩ <;> simp [h]

/-- A datagram is 40 header bytes and the payload (R203). -/
@[simp] theorem datagramOf_length (c : Ccb) (ipId : U16) (flags : Byte) (payload : Buffer) :
    (datagramOf c ipId flags payload).length = 40 + payload.length := by
  simp [datagramOf]; omega

end Sys2Proof.Laws
end

