-- ==== Sys2Proof/Laws/Segment.lean ====
section
/-! SUPPORT. Everything HANDLE can do (spec 42_state_machine.md R171): one of the rules, where its condition holds, or
nothing. -/

namespace Sys2Proof.Laws

open Sys2Proof.Machine

@[simp] theorem acceptSynAck_params (tcp : TCPHeader) (s : State) : (acceptSynAck tcp s).params = s.params := rfl

@[simp] theorem acceptSynAck_runEn (tcp : TCPHeader) (s : State) : (acceptSynAck tcp s).runEn = s.runEn := rfl

@[simp] theorem acceptSynAck_outputs (tcp : TCPHeader) (s : State) : (acceptSynAck tcp s).outputs = s.outputs := rfl

@[simp] theorem acceptSynAck_ccb (tcp : TCPHeader) (s : State) :
    (acceptSynAck tcp s).ccb = { s.ccb with
      recvSeq := seqAdd tcp.seq 1, sendAck := seqAdd tcp.seq 1, recvAck := tcp.ack, state := .established } := rfl

@[simp] theorem drawTransmit_of_acceptSynAck (tcp : TCPHeader) (s : State) :
    drawTransmit (acceptSynAck tcp s) = ((drawTransmit s).1, acceptSynAck tcp (drawTransmit s).2) := by
  cases h : s.transmitDraws <;> simp [drawTransmit, acceptSynAck, h]

/-- Inversion of HANDLE: the rule that ran, and the state and flags under which it runs. -/
theorem handleSegment_cases (tcp : TCPHeader) (payload : Buffer) (s : State) :
    (s.ccb.state = .synSent ∧ hasSynAck tcp = true ∧ handleSegment tcp payload s = ruleSynAck tcp s) ∨
    (s.ccb.state = .established ∧ handleSegment tcp payload s = handleEstablished tcp payload s) ∨
    (s.ccb.state = .lastAck ∧ hasAck tcp = true ∧ handleSegment tcp payload s = ruleLastAck s) ∨
    handleSegment tcp payload s = ruleIgnore s := by
  unfold handleSegment
  split <;> simp_all

/-- Inversion of the ESTABLISHED arm (R178): data alone, FIN alone, data then FIN, a data rule cut short, nothing. -/
theorem handleEstablished_cases (tcp : TCPHeader) (payload : Buffer) (s : State) :
    (payload ≠ [] ∧ (ruleData payload s).1 = .abortSendFailed ∧
      handleEstablished tcp payload s = ruleData payload s) ∨
    (payload ≠ [] ∧ (ruleData payload s).1 = .handled ∧ hasFin tcp = true ∧
      handleEstablished tcp payload s = ruleFin (ruleData payload s).2) ∨
    (payload ≠ [] ∧ (ruleData payload s).1 = .handled ∧ hasFin tcp = false ∧
      handleEstablished tcp payload s = ruleData payload s) ∨
    (payload = [] ∧ hasFin tcp = true ∧ handleEstablished tcp payload s = ruleFin s) ∨
    (payload = [] ∧ hasFin tcp = false ∧ handleEstablished tcp payload s = ruleIgnore s) := by
  cases payload with
  | nil => cases h : hasFin tcp <;> simp [handleEstablished, ruleIgnore, h]
  | cons b rest =>
    have key : (ruleData (b :: rest) s).1 = .abortSendFailed ∨ (ruleData (b :: rest) s).1 = .handled := by
      unfold ruleData; dsimp only; split <;> simp
    rcases key with k | k <;> cases h : hasFin tcp <;> simp [handleEstablished, k, h]

/-- The rules leave the ports and `run_en` alone: HANDLE never writes `run_en` (R176, R221). -/
@[simp] theorem ruleData_runEn (payload : Buffer) (s : State) : (ruleData payload s).2.runEn = s.runEn := by
  unfold ruleData; dsimp only; split <;> simp

@[simp] theorem ruleData_params (payload : Buffer) (s : State) : (ruleData payload s).2.params = s.params := by
  unfold ruleData; dsimp only; split <;> simp

@[simp] theorem ruleFin_params (s : State) : (ruleFin s).2.params = s.params := by
  unfold ruleFin; dsimp only; split
  · split <;> simp
  · simp

@[simp] theorem ruleFin_runEn (s : State) : (ruleFin s).2.runEn = s.runEn := by
  unfold ruleFin; dsimp only; split
  · split <;> simp
  · simp

/-- HANDLE keeps the OPEN parameters. -/
@[simp] theorem handleSegment_params (tcp : TCPHeader) (payload : Buffer) (s : State) :
    (handleSegment tcp payload s).2.params = s.params := by
  rcases handleSegment_cases tcp payload s with ⟨_, _, h⟩ | ⟨_, h⟩ | ⟨_, _, h⟩ | h
  · rw [h]; simp [ruleSynAck]
  · rw [h]
    rcases handleEstablished_cases tcp payload s with ⟨_, _, e⟩ | ⟨_, _, _, e⟩ | ⟨_, _, _, e⟩ | ⟨_, _, e⟩ | ⟨_, _, e⟩ <;>
      rw [e] <;> simp [ruleIgnore]
  · rw [h]; simp [ruleLastAck]
  · rw [h]; simp [ruleIgnore]

/-- HANDLE never writes `run_en`; the dispatcher does (R221). -/
@[simp] theorem handleSegment_runEn (tcp : TCPHeader) (payload : Buffer) (s : State) :
    (handleSegment tcp payload s).2.runEn = s.runEn := by
  rcases handleSegment_cases tcp payload s with ⟨_, _, h⟩ | ⟨_, h⟩ | ⟨_, _, h⟩ | h
  · rw [h]; simp [ruleSynAck, acceptSynAck]
  · rw [h]
    rcases handleEstablished_cases tcp payload s with ⟨_, _, e⟩ | ⟨_, _, _, e⟩ | ⟨_, _, _, e⟩ | ⟨_, _, e⟩ | ⟨_, _, e⟩ <;>
      rw [e] <;> simp [ruleIgnore]
  · rw [h]; simp [ruleLastAck]
  · rw [h]; simp [ruleIgnore]

end Sys2Proof.Laws
end

