-- ==== Sys2Proof/Laws/Step.lean ====
section
/-! SUPPORT. Everything a step can do (spec 20_memory.md R72; 60_exceptions.md R274): idle, RESET, the next command, or
the next RX outcome while run_en = 1. -/

namespace Sys2Proof.Laws

open Sys2Proof.Machine

/-- Inversion of the choice at a boundary. -/
theorem choose_cases (first : Bool) (s : State) :
    (choose first s = (none, s) ∧ s.cmdPort = [] ∧ takeableRx s = []) ∨
    (∃ word rest, s.cmdPort = word :: rest ∧ choose first s = takeCommand word rest s) ∨
    (∃ outcome rest, s.runEn = true ∧ s.rxPort = outcome :: rest ∧ choose first s = takeRx outcome rest s) := by
  have rx : ∀ o r, takeableRx s = o :: r → s.runEn = true ∧ s.rxPort = o :: r := by
    intro o r h
    unfold takeableRx at h
    split at h
    · exact ⟨‹_›, h⟩
    · cases h
  unfold choose
  split
  · exact .inl ⟨rfl, ‹_›, ‹_›⟩
  · exact .inr (.inl ⟨_, _, ‹_›, rfl⟩)
  · rename_i h
    exact .inr (.inr ⟨_, _, (rx _ _ h).1, (rx _ _ h).2, rfl⟩)
  · rename_i hc h
    split
    · exact .inr (.inl ⟨_, _, hc, rfl⟩)
    · exact .inr (.inr ⟨_, _, (rx _ _ h).1, (rx _ _ h).2, rfl⟩)

/-- Inversion of fetching: what was taken, and the state it leaves. -/
theorem fetch_cases (s : State) :
    fetch s = (some .reset, (drawBoundary s).2) ∨
    fetch s = (none, (drawBoundary s).2) ∨
    (∃ word rest, s.cmdPort = word :: rest ∧
      fetch s = (some (decodeCommand s.ccb.state word), { (drawBoundary s).2 with cmdPort := rest })) ∨
    (∃ outcome rest, s.runEn = true ∧ s.rxPort = outcome :: rest ∧
      fetch s = (some (decodeRxOutcome outcome), { (drawBoundary s).2 with rxPort := rest })) := by
  unfold fetch
  split
  · exact .inl rfl
  · rcases choose_cases (drawBoundary s).1.commandFirst (drawBoundary s).2 with
      ⟨h, _, _⟩ | ⟨word, rest, hp, h⟩ | ⟨outcome, rest, hr, hp, h⟩
    · exact .inr (.inl h)
    · exact .inr (.inr (.inl ⟨word, rest, by simpa using hp, by rw [h]; simp [takeCommand]⟩))
    · exact .inr (.inr (.inr ⟨outcome, rest, by simpa using hr, by simpa using hp, by rw [h]; rfl⟩))

/-- Fetching keeps the OPEN parameters. -/
@[simp] theorem fetch_params (s : State) : (fetch s).2.params = s.params := by
  rcases fetch_cases s with h | h | ⟨_, _, _, h⟩ | ⟨_, _, _, _, h⟩ <;> simp [h]

/-- Inversion of a step that answers a next state: the engine idled, or it executed one operation. -/
theorem step_cases (s t : State) (h : step s = .next t) :
    t = (fetch s).2 ∨ ∃ i, (fetch s).1 = some i ∧ wellFormed s.params i = true ∧ exec i (fetch s).2 = .next t := by
  unfold step at h
  split at h
  · rename_i heq
    rw [heq]
    exact .inl (by cases h; rfl)
  · rename_i i s' heq
    split at h
    · exact .inr ⟨i, by rw [heq], ‹_›, by rw [heq]; exact h⟩
    · cases h

end Sys2Proof.Laws
end

