-- ==== Sys2Proof/Tests/Slice0.lean ====
section
/-! SUPPORT. The model's own tests. The words and expected values are those of the spec: the encodings of spec
30_encoding.md and spec/opcode_table.json, and the vectors of spec 95_test_vectors.md, cited at each test. After them,
one witness for the hypotheses of each statement. -/

namespace Sys2Proof.Tests

open Sys2Proof.Machine Sys2Proof.Safety

/-! Helpers: the common setting of 95_test_vectors.md. -/

/-- A buffer from its byte values. -/
def bytes (values : List Nat) : Buffer := values.map (BitVec.ofNat 8)

/-- The state after an operation that answers a next state. -/
def after (o : Host.Outcome State Fault Refusal) : Option State :=
  match o with
  | .next t => some t
  | .fault _ => none
  | .refused _ => none

/-- The result a unit operation leaves. -/
def resultOf (i : Instr) : Option UnitResult := (after (exec i State.reset)).bind (·.result)

/-- A transmission the transport accepts at time `now`, ip_id 0. -/
def accept (now : Nat) : TransmitDraw := { ipId := 0, txOk := true, now := now }

/-- A transmission the transport refuses. -/
def refuse : TransmitDraw := { ipId := 0, txOk := false, now := 0 }

/-- A connection 10.0.0.1:40000 to 10.0.0.2:80 in state `st`, RUN given, the transport's answers listed. -/
def conn (st : TcpState) (draws : List TransmitDraw) : State where
  params := {}
  ccb := {
    state := st, localAddr := 0x0A000001, localPort := 40000, remoteAddr := 0x0A000002, remotePort := 80,
    sendSeq := 1001, sendAck := 5001, recvSeq := 5001, recvAck := 1001, sendWindow := 0, recvWindow := 65535,
    lastSent := 0, retransmitCount := 0 }
  runEn := st != .closed
  cmdPort := []
  rxPort := []
  boundaries := []
  connectDraws := []
  transmitDraws := draws
  tick := 0
  outputs := []
  result := none

/-- The state after reset with one CONNECT and one transmission answered. -/
def fresh (transportOk txOk : Bool) (isn : U32) : State :=
  { State.reset with
    connectDraws := [{ transportOk := transportOk, isn := isn, localAddr := 0x0A000001, localPort := 40000 }]
    transmitDraws := [{ ipId := 0, txOk := txOk, now := 10 }] }

/-- The same machine with other OPEN parameters: 3-bit timestamps, 2-bit retransmit counter, datagrams up to 39 bytes. -/
def narrow (s : State) : State := { s with params := { wTs := 3, wRtx := 2, maxRxLen := 39 } }

/-- A segment of the peer. -/
def seg (flags : Byte) (seq : U32) : TCPHeader where
  srcPort := 80
  dstPort := 40000
  seq := seq
  ack := 1001
  doff := 5
  reserved := 0
  ns := 0
  flags := flags
  window := 65535
  checksum := 0
  urgent := 0

/-- The SYN of program P1 step 1. -/
def synDatagram : Buffer := bytes [0x45, 0, 0, 0x28, 0, 0, 0, 0, 0x40, 6, 0x66, 0xce, 0x0a, 0, 0, 1, 0x0a, 0, 0, 2,
  0x9c, 0x40, 0, 0x50, 0, 0, 3, 0xe8, 0, 0, 0, 0, 0x50, 2, 0xff, 0xff, 0xfb, 0x67, 0, 0]

/-- The pure ACK of program P1 step 3. -/
def ackDatagram : Buffer := bytes [0x45, 0, 0, 0x28, 0, 0, 0, 0, 0x40, 6, 0x66, 0xce, 0x0a, 0, 0, 1, 0x0a, 0, 0, 2,
  0x9c, 0x40, 0, 0x50, 0, 0, 3, 0xe9, 0, 0, 0x13, 0x89, 0x50, 0x10, 0xff, 0xff, 0xe7, 0xcf, 0, 0]

/-- The ACK of program P1 step 4, after two bytes of data. -/
def ackTwoDatagram : Buffer := bytes [0x45, 0, 0, 0x28, 0, 0, 0, 0, 0x40, 6, 0x66, 0xce, 0x0a, 0, 0, 1, 0x0a, 0, 0, 2,
  0x9c, 0x40, 0, 0x50, 0, 0, 3, 0xe9, 0, 0, 0x13, 0x8b, 0x50, 0x10, 0xff, 0xff, 0xe7, 0xcd, 0, 0]

/-- The FIN+ACK of R253. -/
def finAckDatagram : Buffer := bytes [0x45, 0, 0, 0x28, 0, 0, 0, 0, 0x40, 6, 0x66, 0xce, 0x0a, 0, 0, 1, 0x0a, 0, 0, 2,
  0x9c, 0x40, 0, 0x50, 0, 0, 3, 0xe9, 0, 0, 0x13, 0x89, 0x50, 0x11, 0xff, 0xff, 0xe7, 0xce, 0, 0]

/-- The datagram with payload "abc" whose header is that of 2.2. -/
def abcHeader : Buffer := bytes [0x9c, 0x40, 0, 0x50, 0, 0, 3, 0xe9, 0, 0, 0x13, 0x89, 0x50, 0x18, 0xff, 0xff, 0x23,
  0x62, 0, 0]

/-- The peer's SYN+ACK of P1 step 3. -/
def peerSynAck : Buffer := bytes [0x45, 0, 0, 0x28, 0, 0, 0, 0, 0x40, 6, 0x66, 0xce, 0x0a, 0, 0, 2, 0x0a, 0, 0, 1,
  0, 0x50, 0x9c, 0x40, 0, 0, 0x13, 0x88, 0, 0, 3, 0xe9, 0x50, 0x12, 0xff, 0xff, 0xe7, 0xce, 0, 0]

/-- The peer's "hi" of P1 step 4. -/
def peerHi : Buffer := bytes [0x45, 0, 0, 0x2a, 0, 0, 0, 0, 0x40, 6, 0x66, 0xcc, 0x0a, 0, 0, 2, 0x0a, 0, 0, 1,
  0, 0x50, 0x9c, 0x40, 0, 0, 0x13, 0x89, 0, 0, 3, 0xe9, 0x50, 0x18, 0xff, 0xff, 0x7f, 0x5c, 0, 0, 0x68, 0x69]

/-- P3 step 5: protocol 17. -/
def peerUdp : Buffer := bytes [0x45, 0, 0, 0x28, 0, 0, 0, 0, 0x40, 0x11, 0x66, 0xc3, 0x0a, 0, 0, 2, 0x0a, 0, 0, 1,
  0, 0x50, 0x9c, 0x40, 0, 0, 0x13, 0x89, 0, 0, 3, 0xe9, 0x50, 0x10, 0xff, 0xff, 0xe7, 0xcf, 0, 0]

/-- P3 step 6: source 10.0.0.3. -/
def peerOther : Buffer := bytes [0x45, 0, 0, 0x2a, 0, 0, 0, 0, 0x40, 6, 0x66, 0xcb, 0x0a, 0, 0, 3, 0x0a, 0, 0, 1,
  0, 0x50, 0x9c, 0x40, 0, 0, 0x13, 0x89, 0, 0, 3, 0xe9, 0x50, 0x18, 0xff, 0xff, 0x79, 0x55, 0, 0, 0x6e, 0x6f]

/-- P3 step 9: source port 81. -/
def peerPort : Buffer := bytes [0x45, 0, 0, 0x2a, 0, 0, 0, 0, 0x40, 6, 0x66, 0xcc, 0x0a, 0, 0, 2, 0x0a, 0, 0, 1,
  0, 0x51, 0x9c, 0x40, 0, 0, 0x13, 0x89, 0, 0, 3, 0xe9, 0x50, 0x18, 0xff, 0xff, 0x79, 0x55, 0, 0, 0x6e, 0x6f]

/-- P3 step 10: ihl 6 in 40 bytes. -/
def peerIhl : Buffer := bytes [0x46, 0, 0, 0x28, 0, 0, 0, 0, 0x40, 6, 0x65, 0xce, 0x0a, 0, 0, 2, 0x0a, 0, 0, 1,
  0, 0x50, 0x9c, 0x40, 0, 0, 0x13, 0x89, 0, 0, 3, 0xe9, 0x50, 0x10, 0xff, 0xff, 0xe7, 0xcf, 0, 0]

/-- P3 step 11: doff 4. -/
def peerDoff : Buffer := bytes [0x45, 0, 0, 0x28, 0, 0, 0, 0, 0x40, 6, 0x66, 0xce, 0x0a, 0, 0, 2, 0x0a, 0, 0, 1,
  0, 0x50, 0x9c, 0x40, 0, 0, 0x13, 0x89, 0, 0, 3, 0xe9, 0x40, 0x10, 0xff, 0xff, 0xf7, 0xcf, 0, 0]

/-- P3 step 12: doff 6 in 42 bytes, the payload clamped. -/
def peerClamp : Buffer := bytes [0x45, 0, 0, 0x2a, 0, 0, 0, 0, 0x40, 6, 0x66, 0xcc, 0x0a, 0, 0, 2, 0x0a, 0, 0, 1,
  0, 0x50, 0x9c, 0x40, 0, 0, 0x13, 0x89, 0, 0, 3, 0xe9, 0x60, 0x18, 0xff, 0xff, 0x5f, 0x4c, 0, 0, 0x78, 0x79]

/-- P3 step 15: ihl 6, doff 6, payload "xy". -/
def peerOptions : Buffer := bytes [0x46, 0, 0, 0x32, 0, 0, 0, 0, 0x40, 6, 0x63, 0xc3, 0x0a, 0, 0, 2, 0x0a, 0, 0, 1,
  1, 1, 1, 0, 0, 0x50, 0x9c, 0x40, 0, 0, 0x13, 0x89, 0, 0, 3, 0xe9, 0x60, 0x18, 0xff, 0xff, 0, 0, 0, 0,
  2, 4, 5, 0xb4, 0x78, 0x79]

/-! WellFormed: an ill-formed term for each check. -/

theorem test_wf_reserved : wellFormed {} (.cmdReserved 0x00) = true ∧ wellFormed {} (.cmdReserved 0x05) = true ∧
    wellFormed {} (.cmdReserved 0x01) = false ∧ wellFormed {} (.cmdReserved 0x02) = false ∧
    wellFormed {} (.cmdReserved 0x03) = false ∧ wellFormed {} (.cmdReserved 0x04) = false := by decide

theorem test_wf_rx_classes : wellFormed {} (.rxSynsentSynack (seg 0x10 0) []) = false ∧
    wellFormed {} (.rxSynsentSynack (seg 0x02 0) []) = false ∧ wellFormed {} (.rxEstData (seg 0x18 0) []) = false ∧
    wellFormed {} (.rxEstFin (seg 0x10 0) []) = false ∧ wellFormed {} (.rxLastackAck (seg 0x01 0) []) = false := by decide

theorem test_wf_short_buffers : wellFormed {} (.decIpv4 (List.replicate 19 0)) = false ∧
    wellFormed {} (.decTcp (List.replicate 19 0)) = false ∧ wellFormed {} (.decIpv4 (List.replicate 20 0)) = true ∧
    wellFormed {} (.tcpcsum (List.replicate 19 0) 0 0 []) = false := by decide

theorem test_wf_enc_tcp_flags : wellFormed {} (.encTcp 0 0 0 0 0x14 0 0 0 []) = false ∧
    wellFormed {} (.encTcp 0 0 0 0 0x18 0 0 0 []) = true := by decide

theorem test_wf_lengths : wellFormed {} (.encIpv4 65495 0 0 0) = true ∧ wellFormed {} (.encIpv4 65496 0 0 0) = false ∧
    wellFormed {} (.pseudo 0 0 65515) = true ∧ wellFormed {} (.pseudo 0 0 65516) = false := by decide

theorem test_wf_long_buffers (B : Buffer) :
    (65495 < B.length → wellFormed {} (.txPshack B) = false ∧ wellFormed {} (.sendseg 0x18 B) = false) ∧
    (65515 < B.length → wellFormed {} (.encTcp 0 0 0 0 0x18 0 0 0 B) = false ∧
      wellFormed {} (.tcpcsum (List.replicate 20 0) 0 0 B) = false) ∧
    (∀ params : OpenParams, params.maxRxLen < B.length → wellFormed params (.rxDatagram B) = false) := by
  refine ⟨fun h => ⟨?_, ?_⟩, fun h => ⟨?_, ?_⟩, fun _ h => decide_eq_false (Nat.not_le.mpr h)⟩ <;>
    simp [wellFormed, Config.maxPayload, Config.maxTcpPayload] <;>
    exact decide_eq_false (Nat.not_le.mpr h)

theorem test_wf_sendseg : wellFormed {} (.sendseg 0x18 [0x61]) = true ∧ wellFormed {} (.sendseg 0x10 [0x61]) = false ∧
    wellFormed {} (.sendseg 0x04 []) = false := by decide

/-! Decoding: the word of each row, written out from its encoding (R82, R84, R85, R87, R90, R91, R100). -/

theorem test_decode_connect : decode .closed (.command { bareCommand 0b00000001 with
    remoteAddr := 0x0A000002, remotePort := 80 }) = .ok [.connect 0x0A000002 80] := by rfl

theorem test_decode_send : decode .closed (.command { bareCommand 0b00000010 with data := [0x61] }) =
    .ok [.send [0x61]] := by rfl

theorem test_decode_close : decode .established (.command (bareCommand 0b00000011)) = .ok [.closeEstablished] ∧
    decode .finWait1 (.command (bareCommand 0b00000011)) = .ok [.closeRelease] := ⟨rfl, rfl⟩

theorem test_decode_run : decode .synSent (.command (bareCommand 0b00000100)) = .ok [.run] := by rfl

theorem test_decode_reserved : decode .closed (.command (bareCommand 0x00)) = .ok [.cmdReserved 0x00] ∧
    decode .closed (.command (bareCommand 0x05)) = .ok [.cmdReserved 0x05] ∧
    decode .closed (.command (bareCommand 0xFF)) = .ok [.cmdReserved 0xFF] := ⟨rfl, rfl, rfl⟩

theorem test_decode_transmit : decode .closed (.transmit 0b00000010 []) = .ok [.txSyn] ∧
    decode .closed (.transmit 0b00010000 []) = .ok [.txAck] ∧
    decode .closed (.transmit 0b00010001 []) = .ok [.txFinack] ∧
    decode .closed (.transmit 0b00011000 [0x61]) = .ok [.txPshack [0x61]] ∧
    decode .closed (.transmit 0b00010010 []) = .error .unknownTransmitKind ∧
    decode .closed (.transmit 0b00010000 [0x61]) = .error .payloadNotAllowed := ⟨rfl, rfl, rfl, rfl, rfl, rfl⟩

theorem test_decode_synack : decode .synSent (.segment (bytes [0, 80, 0x9c, 0x40, 0, 0, 0x13, 0x88, 0, 0, 3, 0xe9,
    0x50, 0b00010010, 0xff, 0xff, 0, 0, 0, 0]) []) = .ok [.rxSynsentSynack (seg 0x12 5000) []] := by rfl

theorem test_decode_data_then_fin : decode .established (.segment (bytes [0, 80, 0x9c, 0x40, 0, 0, 0x13, 0x89, 0, 0, 3,
    0xe9, 0x50, 0b00011001, 0xff, 0xff, 0, 0, 0, 0]) [0x5a]) =
    .ok [.rxEstData (seg 0x19 5001) [0x5a], .rxEstFin (seg 0x19 5001) [0x5a]] := by rfl

theorem test_decode_last_ack : decode .lastAck (.segment (bytes [0, 80, 0x9c, 0x40, 0, 0, 0x13, 0x8b, 0, 0, 3, 0xe9,
    0x50, 0b00010100, 0xff, 0xff, 0, 0, 0, 0]) []) = .ok [.rxLastackAck (seg 0x14 5003) []] := by rfl

theorem test_decode_ignore : decode .closeWait (.segment (bytes [0, 80, 0x9c, 0x40, 0, 0, 0x13, 0x8b, 0, 0, 3, 0xe9,
    0x50, 0xff, 0xff, 0xff, 0, 0, 0, 0]) [0x5a]) = .ok [.rxIgnore (seg 0xff 5003) [0x5a]] := by rfl

/-- The header of 2.2 with every field at its offset. -/
def everyIpv4Field : IPv4Header where
  version := 4
  ihl := 6
  tos := 0x10
  totalLength := 0x1234
  identification := 0xABCD
  flagsFrag := 0x4000
  ttl := 1
  protocol := 17
  checksum := 0xBEEF
  src := 0xC0A80101
  dst := 0xFFFFFFFF

/-- Its image, 2.2. -/
def everyIpv4Image : Buffer := bytes [0x46, 0x10, 0x12, 0x34, 0xab, 0xcd, 0x40, 0, 1, 0x11, 0xbe, 0xef, 0xc0, 0xa8, 1,
  1, 0xff, 0xff, 0xff, 0xff]

/-- The TCP header of 2.2 with every field at its offset. -/
def everyTcpField : TCPHeader where
  srcPort := 1
  dstPort := 2
  seq := 0x01020304
  ack := 0x05060708
  doff := 15
  reserved := 5
  ns := 1
  flags := 0xFF
  window := 0x090A
  checksum := 0x0B0C
  urgent := 0x0D0E

/-- Its image, 2.2. -/
def everyTcpImage : Buffer := bytes [0, 1, 0, 2, 1, 2, 3, 4, 5, 6, 7, 8, 0xfb, 0xff, 9, 0x0a, 0x0b, 0x0c, 0x0d, 0x0e]

theorem test_decode_pack_ipv4 : decode .closed (.packedIpv4 everyIpv4Image) = .ok [.packIpv4 everyIpv4Field] := by rfl

theorem test_decode_dec_ipv4 : decode .closed (.receivedIpv4 everyIpv4Image) = .ok [.decIpv4 everyIpv4Image] ∧
    decode .closed (.receivedIpv4 (bytes [0x45, 0])) = .error .wrongLength := ⟨rfl, rfl⟩

theorem test_decode_pack_tcp : decode .closed (.packedTcp everyTcpImage) = .ok [.packTcp everyTcpField] := by rfl

theorem test_decode_dec_tcp : decode .closed (.receivedTcp everyTcpImage) = .ok [.decTcp everyTcpImage] := by rfl

theorem test_decode_enc_ipv4 : decode .closed (.builtIpv4 (bytes [0x45, 0, 0, 0x2d, 0, 0, 0, 0, 0x40, 6, 0x66, 0xc9,
    0x0a, 0, 0, 1, 0x0a, 0, 0, 2])) = .ok [.encIpv4 5 0 0x0A000001 0x0A000002] := by rfl

theorem test_decode_enc_ipv4_refuses : decode .closed (.builtIpv4 (bytes [0x45, 0, 0, 0x2d, 0, 0, 0, 0, 0x3f, 6, 0x66,
    0xc9, 0x0a, 0, 0, 1, 0x0a, 0, 0, 2])) = .error .fixedFieldWrong := by rfl

theorem test_decode_enc_tcp : decode .closed (.builtTcp abcHeader 0x0A000001 0x0A000002 (bytes [0x61, 0x62, 0x63])) =
    .ok [.encTcp 40000 80 1001 5001 0x18 65535 0x0A000001 0x0A000002 (bytes [0x61, 0x62, 0x63])] := by rfl

theorem test_decode_pseudo : decode .closed (.pseudoImage (bytes [0x0a, 0, 0, 1, 0x0a, 0, 0, 2, 0, 6, 0, 0x17])) =
    .ok [.pseudo 0x0A000001 0x0A000002 3] ∧
    decode .closed (.pseudoImage (bytes [0x0a, 0, 0, 1, 0x0a, 0, 0, 2, 0, 17, 0, 0x17])) =
      .error .fixedFieldWrong := ⟨rfl, rfl⟩

/-- The encoder's bytes have the fixed bits of the table's row. -/
def encodesItsRow (i : Instr) : Bool :=
  match encode i, tableRow i with
  | some p, some row => fitsRow row (rowBytes p)
  | none, none => true
  | _, _ => false

theorem test_encode_fits_table : encodesItsRow (.connect 1 2) = true ∧ encodesItsRow .txFinack = true ∧
    encodesItsRow (.rxSynsentSynack (seg 0x16 0) []) = true ∧ encodesItsRow (.encIpv4 5 7 1 2) = true ∧
    encodesItsRow (.encTcp 1 2 3 4 0x1B 5 6 7 [0x61]) = true ∧ encodesItsRow (.pseudo 1 2 3) = true ∧
    encodesItsRow (.ocsum []) = true := by decide +kernel

/-! The host commands: 2.6 and programs P1, P4. -/

theorem test_connect_sends_the_syn : (after (exec (.connect 0x0A000002 80) (fresh true true 1000))).map (fun t =>
    (t.ccb.state, t.ccb.sendSeq, t.ccb.lastSent, t.runEn, t.outputs)) =
    some (.synSent, 1001, 10, false, [.tx synDatagram, .response .ok none]) := by decide +kernel

theorem test_connect_send_failed : (after (exec (.connect 0x0A000002 80) (fresh true false 1000))).map (fun t =>
    (t.ccb.state, t.ccb.sendSeq, t.ccb.recvWindow, t.ccb.lastSent, t.outputs)) =
    some (.closed, 1000, 65535, 0, [.response .sendFailed none]) := by decide +kernel

theorem test_send_abc : (after (exec (.send (bytes [0x61, 0x62, 0x63])) (conn .established [accept 3]))).map
    (fun t => (t.ccb.sendSeq, t.outputs)) = some (1004, [.tx (bytes [0x45, 0, 0, 0x2b, 0, 0, 0, 0, 0x40, 6, 0x66, 0xcb,
      0x0a, 0, 0, 1, 0x0a, 0, 0, 2] ++ abcHeader ++ bytes [0x61, 0x62, 0x63]), .response .ok (some 3)]) := by
  decide +kernel

theorem test_send_not_connected : (after (exec (.send [0x61]) (conn .synSent []))).map (·.outputs) =
    some [.response .notConnected none] := by decide

theorem test_close_established : (after (exec .closeEstablished (conn .established [accept 3]))).map (fun t =>
    (t.ccb.state, t.ccb.sendSeq, t.runEn, t.outputs)) =
    some (.finWait1, 1002, true, [.tx finAckDatagram, .response .ok none]) := by decide +kernel

theorem test_close_send_failed : (after (exec .closeEstablished (conn .established [refuse]))).map (fun t =>
    (t.ccb.state, t.ccb.sendSeq, t.outputs)) = some (.established, 1001, [.response .sendFailed none]) := by decide

theorem test_close_release : (after (exec .closeRelease (conn .finWait1 []))).map (fun t =>
    (t.ccb.state, t.ccb.sendSeq, t.runEn, t.outputs)) = some (.closed, 1001, false, [.response .ok none]) := by decide

theorem test_run_in_closed : (after (exec .run State.reset)).map (fun t => (t.runEn, t.outputs)) =
    some (false, [.response .ok none]) := by decide

theorem test_run_in_syn_sent : (after (exec .run { conn .synSent [] with runEn := false })).map (·.runEn) =
    some true := by decide

theorem test_reserved_opcode : (after (exec (.cmdReserved 0xFF) (conn .established []))).map (·.outputs) =
    some [.response .badCommand none] := by decide

/-! The send path: 2.5. -/

theorem test_tx_syn_wraps : (after (exec .txSyn
    { conn .synSent [accept 9] with ccb := { (conn .synSent []).ccb with sendSeq := 0xFFFFFFFF } })).map (fun t =>
    (t.ccb.sendSeq, t.ccb.lastSent, t.result)) = some (0, 9, some (.sent true)) := by decide +kernel

theorem test_tx_ack : (after (exec .txAck (conn .established [accept 9]))).map (fun t =>
    (t.ccb.sendSeq, t.outputs)) = some (1001, [.tx ackDatagram]) := by decide +kernel

theorem test_tx_finack : (after (exec .txFinack (conn .established [accept 9]))).map (fun t =>
    (t.ccb.sendSeq, t.outputs)) = some (1002, [.tx finAckDatagram]) := by decide +kernel

theorem test_tx_pshack_wraps : (after (exec (.txPshack [1, 2, 3, 4, 5])
    { conn .established [accept 9] with ccb := { (conn .established []).ccb with sendSeq := 0xFFFFFFFE } })).map
    (·.ccb.sendSeq) = some 3 := by decide +kernel

theorem test_sendseg_failed : (after (exec (.sendseg 0x18 [0x61]) (conn .established [refuse]))).map (fun t =>
    (t.ccb, t.outputs, t.result)) = some ((conn .established []).ccb, [], some (.sent false)) := by decide

/-! The state machine: 2.4. -/

theorem test_synack_wraps : (after (exec (.rxSynsentSynack (seg 0x16 0xFFFFFFFF) [0x6a])
    (conn .synSent [accept 11]))).map (fun t => (t.ccb.state, t.ccb.recvSeq, t.ccb.sendAck, t.ccb.recvAck, t.result)) =
    some (.established, 0, 0, 1001, some (.outcome .handled)) := by decide +kernel

theorem test_synack_send_failed : (after (exec (.rxSynsentSynack (seg 0x12 5000) [])
    (conn .synSent [refuse]))).map (fun t => (t.ccb.state, t.ccb.recvSeq, t.outputs, t.result)) =
    some (.established, 5001, [], some (.outcome .abortSendFailed)) := by decide

theorem test_data_acked_then_delivered : (after (exec (.rxEstData (seg 0x18 5001) (bytes [0x68, 0x69]))
    (conn .established [accept 12]))).map (fun t => (t.ccb.recvSeq, t.ccb.sendAck, t.outputs)) =
    some (5003, 5003, [.tx ackTwoDatagram, .sink (bytes [0x68, 0x69])]) := by decide +kernel

theorem test_fin_second_send_fails : (after (exec (.rxEstFin (seg 0x11 5001) [])
    (conn .established [accept 3, refuse]))).map (fun t => (t.ccb.state, t.ccb.recvSeq, t.ccb.sendSeq,
      (datagrams t.outputs).map (byteAt · 33), t.result)) =
    some (.closeWait, 5002, 1001, [0x10], some (.outcome .abortSendFailed)) := by decide +kernel

theorem test_fin_without_ack : (after (exec (.rxEstFin (seg 0x01 5001) [])
    (conn .established [accept 3, accept 4]))).map (fun t => (t.ccb.state, t.ccb.sendSeq, t.ccb.lastSent)) =
    some (.lastAck, 1002, 4) := by decide +kernel

theorem test_last_ack : (after (exec (.rxLastackAck (seg 0x14 5001) [0x61]) (conn .lastAck []))).map (fun t =>
    (t.ccb.state, t.outputs)) = some (.closed, []) := by decide

theorem test_ignore : (after (exec (.rxIgnore (seg 0x11 0) [0x61]) (conn .closeWait []))).map (fun t =>
    (t.ccb, t.result)) = some ((conn .closeWait []).ccb, some (.outcome .ignored)) := by decide

theorem test_handle_ignores_rst : (after (exec (.handle (seg 0x14 0) []) (conn .established []))).map (·.result) =
    some (some (.outcome .ignored)) := by decide

/-- P5 step 4: one segment, three datagrams, one delivery. -/
theorem test_handle_data_and_fin : (after (exec (.handle (seg 0x19 5001) [0x5a])
    (conn .established [accept 3, accept 4, accept 5]))).map (fun t => (t.ccb.state, t.ccb.recvSeq, t.ccb.sendSeq,
      (datagrams t.outputs).map (byteAt · 33), t.outputs[1]?)) =
    some (.lastAck, 5003, 1002, [0x10, 0x10, 0x11], some (.sink [0x5a])) := by decide +kernel

/-! The checksum unit: 2.1. -/

theorem test_ocsum_odd : resultOf (.ocsum (bytes [0x12, 0x34, 0x56])) = some (.word 0x6834) := by decide +kernel

theorem test_ocsum_two_carries : resultOf (.ocsum (bytes [0, 1, 0xf2, 3, 0xf4, 0xf5, 0xf6, 0xf7])) =
    some (.word 0xDDF2) := by decide +kernel

theorem test_csum_empty : resultOf (.csum []) = some (.word 0xFFFF) := by decide

theorem test_csum_carry : resultOf (.csum (bytes [0x80, 0, 0x80, 0])) = some (.word 0xFFFE) := by decide +kernel

theorem test_csumok_all_ones : resultOf (.csumok (bytes [0xff, 0xff, 0xff, 0xff])) = some (.bit true) := by
  decide +kernel

theorem test_csumok_zero : resultOf (.csumok (bytes [0, 0])) = some (.bit false) := by decide

/-- The SYN's header of 2.1, the checksum field holding 0xDEAD. -/
def synHeaderDead : Buffer := bytes [0x9c, 0x40, 0, 0x50, 0, 0, 3, 0xe8, 0, 0, 0, 0, 0x50, 2, 0xff, 0xff, 0xde, 0xad,
  0, 0]

theorem test_tcpcsum_field_ignored : resultOf (.tcpcsum synHeaderDead 0x0A000001 0x0A000002 []) =
    some (.word 0xFB67) := by decide +kernel

theorem test_tcpcsum_payload : resultOf (.tcpcsum synHeaderDead 0x0A000001 0x0A000002 (bytes [0x68, 0x6a])) =
    some (.word 0x92FB) := by decide +kernel

/-! The codec: 2.2. -/

theorem test_pack_ipv4 : resultOf (.packIpv4 everyIpv4Field) = some (.buffer everyIpv4Image) := by decide +kernel

theorem test_dec_ipv4 : resultOf (.decIpv4 everyIpv4Image) = some (.ipv4 everyIpv4Field) := by decide +kernel

theorem test_pack_tcp : resultOf (.packTcp everyTcpField) = some (.buffer everyTcpImage) := by decide +kernel

theorem test_dec_tcp : resultOf (.decTcp everyTcpImage) = some (.tcp everyTcpField) := by decide +kernel

/-- A computed checksum of 0x0000 is stored as 00 00. -/
theorem test_enc_ipv4_zero_checksum : resultOf (.encIpv4 0 0x66CE 0x0A000001 0x0A000002) = some (.buffer (bytes
    [0x45, 0, 0, 0x28, 0x66, 0xce, 0, 0, 0x40, 6, 0, 0, 0x0a, 0, 0, 1, 0x0a, 0, 0, 2])) := by decide +kernel

theorem test_enc_ipv4_largest : resultOf (.encIpv4 65495 0 0x0A000001 0x0A000002) = some (.buffer (bytes
    [0x45, 0, 0xff, 0xff, 0, 0, 0, 0, 0x40, 6, 0x66, 0xf6, 0x0a, 0, 0, 1, 0x0a, 0, 0, 2])) := by decide +kernel

theorem test_enc_tcp_odd_payload : resultOf (.encTcp 40000 80 1001 5001 0x18 65535 0x0A000001 0x0A000002
    (bytes [0x61, 0x62, 0x63])) = some (.buffer abcHeader) := by decide +kernel

theorem test_pseudo : resultOf (.pseudo 0x0A000002 0x0A000001 2) =
    some (.buffer (bytes [0x0a, 0, 0, 2, 0x0a, 0, 0, 1, 0, 6, 0, 0x16])) := by decide +kernel

theorem test_dec_dgram_malformed : [bytes [0x45, 0, 0, 0x0a, 0, 0, 0, 0, 0x40, 6], List.replicate 40 0, peerIhl,
    peerDoff].map (fun B => resultOf (.decDgram B)) = List.replicate 4 (some (.dgram none)) := by decide +kernel

theorem test_dec_dgram_options : (match resultOf (.decDgram peerOptions) with
    | some (.dgram (some (ip, tcp, payload))) => some (ip.ihl, tcp.seq, tcp.doff, payload)
    | _ => none) = some (6, 5001, 6, bytes [0x78, 0x79]) := by decide +kernel

/-! The filter and the events: 2.3, 2.7, program P3. -/

/-- What the filter stages answer on the datagrams of P3. -/
def filterBoth (B : Buffer) : List (Option UnitResult) :=
  [.filterIp (unpackIpv4 B), .filterPort (unpackTcp (B.drop 20))].map
    (fun i => (after (exec i (conn .established []))).bind (·.result))

theorem test_filter_ip : (filterBoth peerUdp).head? = some (some (.filter (some .dropNotTcp))) ∧
    (filterBoth peerOther).head? = some (some (.filter (some .dropAddr))) := by decide +kernel

theorem test_filter_port : filterBoth peerPort = [some (.filter none), some (.filter (some .dropPort))] ∧
    filterBoth peerHi = [some (.filter none), some (.filter none)] := by decide +kernel

/-- The verdicts of P3 steps 4, 5, 6, 9, 10, 11, 12. -/
theorem test_rx_verdicts : [bytes [0x45, 0, 0, 0x0a, 0, 0, 0, 0, 0x40, 6], peerUdp, peerOther, peerPort, peerIhl,
    peerDoff, peerClamp].map (fun B => (after (exec (.rxDatagram B) (conn .established []))).map (·.outputs)) =
    [.dropMalformed, .dropNotTcp, .dropAddr, .dropPort, .dropMalformed, .dropMalformed, .ignored].map
      (fun v => some [.verdict v]) := by decide +kernel

/-- P1 step 3: the SYN+ACK received in SYN_SENT. -/
theorem test_rx_synack : (after (exec (.rxDatagram peerSynAck) (conn .synSent [accept 11]))).map (fun t =>
    (t.ccb.state, t.ccb.sendAck, t.runEn, t.outputs)) =
    some (.established, 5001, true, [.tx ackDatagram, .verdict .handled]) := by decide +kernel

theorem test_rx_timeout : (after (exec .rxTimeout (conn .established []))).map (fun t => (t.runEn, t.outputs)) =
    some (true, [.verdict .timeout]) := by decide

theorem test_rx_error : (after (exec .rxError (conn .established []))).map (fun t =>
    (t.runEn, t.ccb.state, t.outputs)) = some (false, .established, [.verdict .recvFailed]) := by decide

theorem test_reset : (after (exec .reset (conn .established []))).map (fun t => (t.ccb, t.runEn, t.outputs)) =
    some (Ccb.zero, false, []) := by decide

/-! Steps and the host's registers. -/

/-- The register numbers of R33. -/
theorem test_registers : (List.range 15).map (readRegister (conn .established [])) =
    [4, 0x0A000001, 40000, 0x0A000002, 80, 1001, 5001, 5001, 1001, 0, 65535, 0, 0, 1, 0] := by decide

/-- A command word placed for the next step runs as the first operation after reset. -/
theorem test_step_first_word : (after (step (State.reset.withFetchWord 8 0xFF))).map (·.outputs) =
    some [.response .badCommand none] := by decide

/-- W_TS and MAX_RX_LEN are parameters (R8): `now` = 9 is 1 in three bits, and 40 bytes are too many for 39. -/
theorem test_open_parameters :
    (after (exec .txAck (narrow (conn .established [accept 9])))).map (·.ccb.lastSent) = some 1 ∧
    step { narrow (conn .synSent []) with rxPort := [.datagram peerSynAck] } = .refused .notPresented :=
  ⟨by decide +kernel, rfl⟩

/-- The RX port is not read while run_en = 0 (R220). -/
theorem test_step_leaves_rx : (after (step { State.reset with
    rxPort := [.timeout], boundaries := [{ reset := false, commandFirst := false }] })).map (·.rxPort) =
    some [.timeout] := by decide

/-- RESET wins over a pending command (R274). -/
theorem test_step_reset_wins : (after (step { conn .established [] with
    cmdPort := [bareCommand 0x04], boundaries := [{ reset := true, commandFirst := true }] })).map (fun t =>
    (t.ccb.state, t.cmdPort, t.outputs)) = some (.closed, [bareCommand 0x04], []) := by decide

/-! Witnesses: for each statement with hypotheses, a state and operands that meet them together, clause by clause. -/

theorem witness_DecodeOfEncodeIsTheOperation :
    (wellFormed {} (.txPshack [0x61]) = true ∧ rowSelected .closed (.txPshack [0x61]) = true ∧
      encode (.txPshack [0x61]) = some (.transmit 0x18 [0x61])) ∧
    (wellFormed {} (.rxEstFin (seg 0x11 1) []) = true ∧ rowSelected .established (.rxEstFin (seg 0x11 1) []) = true ∧
      encode (.rxEstFin (seg 0x11 1) []) = some (.segment (packTcp (seg 0x11 1)) [])) ∧
    (wellFormed {} .closeRelease = true ∧ rowSelected .closed .closeRelease = true ∧
      encode .closeRelease = some (.command (bareCommand 3))) := by decide

/-- The header B0 of example E1. -/
def headerZero : Buffer := bytes [0x45, 0, 0, 0x28, 0, 0, 0, 0, 0x40, 6, 0, 0, 0x0a, 0, 0, 1, 0x0a, 0, 0, 2]

theorem witness_StoredChecksumVerifies : 10 % 2 = 0 ∧ 10 + 2 ≤ headerZero.length ∧ byteAt headerZero 10 = 0 ∧
    byteAt headerZero (10 + 1) = 0 := by decide

theorem witness_OneByteChangeIsDetected :
    (8 < headerZero.length ∧ (0x3f : Byte) ≠ byteAt headerZero 8) ∧
    (synHeaderDead.length = 20 ∧ 1 < (bytes [0x68, 0x69]).length ∧ (0x6a : Byte) ≠ byteAt (bytes [0x68, 0x69]) 1) := by
  decide

theorem witness_TcpcsumZeroesItsField : synHeaderDead.length = 20 ∧
    (List.replicate 65515 (0 : Byte)).length ≤ 65515 := ⟨rfl, by rw [List.length_replicate]⟩

theorem witness_UnitsStopOutsideTheirOperands :
    (List.replicate 19 (0 : Byte)).length < 20 ∧ (List.replicate 21 (0 : Byte)).length ≠ 20 ∧
    65515 < (List.replicate 65516 (0 : Byte)).length ∧ 65495 < (List.replicate 65496 (0 : Byte)).length ∧
    65495 < 65496 ∧ 65515 < 65516 := by
  simp only [List.length_replicate]; omega

theorem witness_HeaderCodecRoundTrips : everyIpv4Image.length = 20 ∧ everyTcpImage.length = 20 := by decide

theorem witness_HeaderCodecFollowsTheLayout : everyIpv4Image.length = 20 ∧ everyTcpImage.length = 20 := by decide

theorem witness_BuiltIpv4HeaderHasItsFields : (65495 : Nat) ≤ 65495 := by decide

theorem witness_BuiltTcpHeaderHasItsFields : (List.replicate 65515 (0 : Byte)).length ≤ 65515 := by
  rw [List.length_replicate]

theorem witness_PseudoHeaderHasItsLayout : (65515 : Nat) ≤ 65515 := by decide

/-- The verdict of a drop, as the statement `RxDatagramResult` writes it. -/
def droppedOf (c : Ccb) (B : Buffer) : Option Verdict :=
  let ip := unpackIpv4 (B.take 20)
  let h := 4 * ip.ihl.toNat
  let tcp := unpackTcp ((B.drop h).take 20)
  if B.length < 40 then some .dropMalformed
  else if ip.protocol ≠ 6 then some .dropNotTcp
  else if ip.src ≠ c.remoteAddr ∨ ip.dst ≠ c.localAddr then some .dropAddr
  else if ip.ihl.toNat < 5 ∨ B.length < h + 20 then some .dropMalformed
  else if tcp.srcPort ≠ c.remotePort ∨ tcp.dstPort ≠ c.localPort then some .dropPort
  else if tcp.doff.toNat < 5 then some .dropMalformed
  else none

theorem witness_RxDatagramResult : (conn .established []).runEn = true ∧
    [List.replicate 39 0, peerUdp, peerOther, peerIhl, peerPort, peerDoff, peerHi].map
      (droppedOf (conn .established []).ccb) =
    [some .dropMalformed, some .dropNotTcp, some .dropAddr, some .dropMalformed, some .dropPort, some .dropMalformed,
      none] := by decide +kernel

theorem witness_RxTimeoutAndErrorResult : (conn .synSent []).runEn = true := by decide

theorem witness_RxWaitsForRun : State.reset.runEn = false ∧
    step { State.reset with boundaries := [{ reset := false, commandFirst := false }] } = .next State.reset := ⟨rfl, rfl⟩

theorem witness_SendSegmentResult : (drawTransmit (conn .established [accept 3])).1.txOk = true ∧
    (drawTransmit (conn .established [refuse])).1.txOk = false ∧
    (List.replicate 65495 (0 : Byte)).length ≤ 65495 := ⟨rfl, rfl, by rw [List.length_replicate]⟩

theorem witness_PeerAcceptsTheDatagram : (List.replicate 65495 (0 : Byte)).length ≤ 65495 := by
  rw [List.length_replicate]

theorem witness_AssembledDatagramIsSound : (conn .established []).ccb.recvWindow = 65535 ∧ [(0x61 : Byte)].length ≤ 65495 ∧
    (0x18 : Byte) ∈ [0x02, 0x10, 0x11, (0x18 : Byte)] ∧ ([(0x61 : Byte)] ≠ [] → (0x18 : Byte) = 0x18) := by decide

theorem witness_SynAckOpensTheConnection : (conn .synSent []).ccb.state = .synSent ∧ (seg 0x12 1).flags &&& 0x02 ≠ 0 ∧
    (seg 0x12 1).flags &&& 0x10 ≠ 0 ∧ (drawTransmit (conn .synSent [accept 1])).1.txOk = true ∧
    (drawTransmit (conn .synSent [refuse])).1.txOk = false := by decide

theorem witness_DataIsAckedThenDelivered : (conn .established []).ccb.state = .established ∧ 0 < [(0x61 : Byte)].length ∧
    (drawTransmit (conn .established [accept 1])).1.txOk = true ∧
    (drawTransmit (conn .established [refuse])).1.txOk = false := by decide

theorem witness_FinIsAnsweredTwice : (conn .established []).ccb.state = .established ∧ (seg 0x01 1).flags &&& 0x01 ≠ 0 ∧
    (drawTransmit (conn .established [refuse])).1.txOk = false ∧
    ((drawTransmit (conn .established [accept 1, refuse])).1.txOk = true ∧
      (drawTransmit (drawTransmit (conn .established [accept 1, refuse])).2).1.txOk = false) ∧
    ((drawTransmit (conn .established [accept 1, accept 2])).1.txOk = true ∧
      (drawTransmit (drawTransmit (conn .established [accept 1, accept 2])).2).1.txOk = true) := by decide

theorem witness_LastAckCloses : (conn .lastAck []).ccb.state = .lastAck ∧ (seg 0x10 1).flags &&& 0x10 ≠ 0 := by decide

theorem witness_EverythingElseIsIgnored :
    (conn .finWait1 []).ccb.state ∈ [TcpState.closed, .listen, .synReceived, .finWait1, .finWait2, .closeWait, .closing,
      .timeWait] ∧
    ((conn .synSent []).ccb.state = .synSent ∧ (seg 0x10 1).flags &&& 0x02 = 0 ∧ (seg 0x02 1).flags &&& 0x10 = 0) ∧
    ((conn .established []).ccb.state = .established ∧ (seg 0x14 1).flags &&& 0x01 = 0) ∧
    ((conn .lastAck []).ccb.state = .lastAck ∧ (seg 0x01 1).flags &&& 0x10 = 0) := by decide

theorem witness_UnselectedClassIsIgnored :
    ¬ ((conn .established []).ccb.state = .synSent ∧ (seg 0x12 1).flags &&& 0x12 = 0x12) ∧
    ¬ ((conn .established []).ccb.state = .established ∧ ([] : Buffer) ≠ []) ∧
    ¬ ((conn .established []).ccb.state = .established ∧ (seg 0x10 1).flags &&& 0x01 = 0x01) ∧
    ¬ ((conn .lastAck []).ccb.state = .lastAck ∧ (seg 0x01 1).flags &&& 0x10 = 0x10) := by decide

theorem witness_HandleSelectsByStateAndFlags :
    ((conn .synSent []).ccb.state = .synSent ∧ (seg 0x12 1).flags &&& 0x02 ≠ 0 ∧ (seg 0x12 1).flags &&& 0x10 ≠ 0) ∧
    ((conn .established []).ccb.state = .established ∧ [(0x61 : Byte)] ≠ [] ∧ ¬ (seg 0x18 1).flags &&& 0x01 ≠ 0) ∧
    (seg 0x11 1).flags &&& 0x01 ≠ 0 ∧ (conn .lastAck []).ccb.state = .lastAck ∧
    (¬ ((conn .synSent []).ccb.state = .synSent ∧ (seg 0x02 1).flags &&& 0x02 ≠ 0 ∧ (seg 0x02 1).flags &&& 0x10 ≠ 0) ∧
      ¬ ((conn .synSent []).ccb.state = .established ∧ (([] : Buffer) ≠ [] ∨ (seg 0x02 1).flags &&& 0x01 ≠ 0)) ∧
      ¬ ((conn .synSent []).ccb.state = .lastAck ∧ (seg 0x02 1).flags &&& 0x10 ≠ 0)) := by decide

theorem witness_DataAndFinInOneSegment :
    (conn .established [accept 1, accept 2, accept 3]).ccb.state = .established ∧ [(0x5a : Byte)] ≠ [] ∧
    (seg 0x19 1).flags &&& 0x01 ≠ 0 ∧ (drawTransmit (conn .established [accept 1, accept 2, accept 3])).1.txOk = true ∧
    (drawTransmit (drawTransmit (conn .established [accept 1, accept 2, accept 3])).2).1.txOk = true ∧
    (drawTransmit (drawTransmit (drawTransmit (conn .established
      [accept 1, accept 2, accept 3])).2).2).1.txOk = true := by decide

theorem witness_TotalityTableHolds :
    (seg 0x12 5000).flags ∈ [0x02, 0x12, 0x10, (0x01 : Byte)] ∧ (seg 0x01 1).flags ∈ [0x02, 0x12, 0x10, (0x01 : Byte)] ∧
    (drawTransmit (conn .synSent [accept 1, accept 2])).1.txOk = true ∧
    (drawTransmit (drawTransmit (conn .synSent [accept 1, accept 2])).2).1.txOk = true := by decide

theorem witness_HandleReadsFourFields : (seg 0x12 1).seq = ({ seg 0x1E 1 with window := 7, srcPort := 1 }).seq ∧
    (seg 0x12 1).ack = ({ seg 0x1E 1 with window := 7, srcPort := 1 }).ack ∧
    (seg 0x12 1).flags &&& 0x13 = ({ seg 0x1E 1 with window := 7, srcPort := 1 }).flags &&& 0x13 := by decide

theorem witness_ConnectResult : (conn .synSent []).ccb.state ≠ .closed ∧ State.reset.ccb.state = .closed ∧
    (drawConnect (fresh false false 1)).1.transportOk = false ∧ (fresh false false 1).ccb.state = .closed ∧
    ((fresh true true 1).ccb.state = .closed ∧ (drawConnect (fresh true true 1)).1.transportOk = true ∧
      (drawTransmit (drawConnect (fresh true true 1)).2).1.txOk = true) ∧
    ((fresh true false 1).ccb.state = .closed ∧ (drawConnect (fresh true false 1)).1.transportOk = true ∧
      (drawTransmit (drawConnect (fresh true false 1)).2).1.txOk = false) := by decide

theorem witness_ConnectForgetsTheOldBlock : (fresh true true 1).ccb.state = .closed ∧
    (conn .closed []).ccb.state = .closed ∧ (conn .closed []).ccb ≠ (fresh true true 1).ccb ∧
    (drawConnect (fresh true true 1)).1.transportOk = true := by decide

theorem witness_SendResult : (conn .synSent []).ccb.state ≠ .established ∧ (conn .established []).ccb.state = .established ∧
    65495 < (List.replicate 65496 (0 : Byte)).length ∧ (List.replicate 65495 (0 : Byte)).length ≤ 65495 ∧
    (drawTransmit (conn .established [refuse])).1.txOk = false ∧
    (drawTransmit (conn .established [accept 1])).1.txOk = true := by
  rw [List.length_replicate, List.length_replicate]; decide

theorem witness_CloseActiveResult : (conn .established [accept 1]).ccb.state = .established ∧
    (drawTransmit (conn .established [accept 1])).1.txOk = true ∧
    (drawTransmit (conn .established [refuse])).1.txOk = false := by decide

theorem witness_CloseReleaseResult : (conn .finWait1 []).ccb.state ≠ .established ∧
    State.reset.ccb.state ≠ .established := by decide

theorem witness_RunResult : ((conn .synSent []).ccb.state ≠ .closed ∧ (conn .synSent []).ccb.state ≠ .timeWait) ∧
    State.reset.ccb.state = .closed ∧ (conn .timeWait []).ccb.state = .timeWait := by decide

theorem witness_ReservedOpcodeResult : (bareCommand 0x00).opcode ∉ [0x01, 0x02, 0x03, (0x04 : Byte)] ∧
    (bareCommand 0x05).opcode ∉ [0x01, 0x02, 0x03, (0x04 : Byte)] ∧
    (bareCommand 0xFF).opcode ∉ [0x01, 0x02, 0x03, (0x04 : Byte)] := by decide

theorem witness_OneAnswerPerStep : (∃ t, exec .run (conn .synSent []) = .next t) ∧ isCommand .run = true ∧
    (∃ t, exec .rxTimeout (conn .synSent []) = .next t) ∧ isRxEvent .rxTimeout = true ∧
    (∃ t, exec (.handle (seg 0x10 1) []) (conn .synSent []) = .next t) ∧
    isCommand (.handle (seg 0x10 1) []) = false ∧ isRxEvent (.handle (seg 0x10 1) []) = false :=
  ⟨⟨_, rfl⟩, rfl, ⟨_, rfl⟩, rfl, ⟨_, rfl⟩, rfl, rfl⟩

theorem witness_FourTupleIsConstant : (∃ t, exec (.send [0x61]) (conn .established [accept 1]) = .next t) ∧
    (∀ addr port, Instr.send [0x61] ≠ .connect addr port) ∧ Instr.send [0x61] ≠ .reset :=
  ⟨⟨_, rfl⟩, fun _ _ => nofun, nofun⟩

theorem witness_StateMovesAlongTheTable :
    ∃ t, exec (.rxDatagram peerSynAck) (conn .synSent [accept 1]) = .next t := ⟨_, rfl⟩

theorem witness_DeadEndsNeedCloseOrReset : (conn .finWait1 []).ccb.state ∈ DeadEnds ∧
    (∃ t, exec .closeRelease (conn .finWait1 []) = .next t) ∧
    ∃ t, exec (.rxDatagram peerHi) (conn .finWait1 []) = .next t := ⟨by decide, ⟨_, rfl⟩, ⟨_, rfl⟩⟩

theorem witness_SendSeqCountsTheDatagrams : (∃ t, exec (.txPshack [1, 2]) (conn .established [accept 1]) = .next t) ∧
    (∀ addr port, Instr.txPshack [1, 2] ≠ .connect addr port) ∧ Instr.txPshack [1, 2] ≠ .reset :=
  ⟨⟨_, rfl⟩, fun _ _ => nofun, nofun⟩

theorem witness_PureUnitsWriteOnlyTheirResult : isPureUnit (.filterPort (seg 0x10 1)) = true ∧
    ∃ t, exec (.filterPort (seg 0x10 1)) (conn .established []) = .next t := ⟨rfl, ⟨_, rfl⟩⟩

/-- A state with a command and an RX outcome pending, the boundary's sample given. -/
def pending (commandFirst : Bool) : State :=
  { conn .synSent [accept 1] with
    cmdPort := [bareCommand 0x04], rxPort := [.datagram peerSynAck]
    boundaries := [{ reset := false, commandFirst := commandFirst }] }

theorem witness_StepRunsTheDecodedOperation :
    ((drawBoundary (pending true)).1.reset = false ∧ (pending true).cmdPort = [bareCommand 0x04] ∧
      (drawBoundary (pending true)).1.commandFirst = true) ∧
    ((drawBoundary (pending false)).1.reset = false ∧ (pending false).runEn = true ∧
      (pending false).rxPort = [.datagram peerSynAck] ∧ (drawBoundary (pending false)).1.commandFirst = false ∧
      peerSynAck.length ≤ (pending false).params.maxRxLen) ∧
    ((drawBoundary (narrow (pending false))).1.reset = false ∧ (narrow (pending false)).runEn = true ∧
      (narrow (pending false)).rxPort = [.datagram peerSynAck] ∧
      (drawBoundary (narrow (pending false))).1.commandFirst = false ∧
      (narrow (pending false)).params.maxRxLen < peerSynAck.length) := by decide

theorem witness_ResetEventZeroesTheBlock :
    (drawBoundary { pending true with boundaries := [{ reset := true, commandFirst := true }] }).1.reset = true := by
  decide

theorem witness_NothingToTakeIdles :
    (drawBoundary { State.reset with boundaries := [{ reset := false, commandFirst := true }] }).1.reset = false ∧
    State.reset.cmdPort = [] ∧ State.reset.runEn = false ∧ State.reset.rxPort = [] := by decide

theorem witness_inv : Inv (pending false) where
  runFlag := by unfold RunFlagSound; decide
  counters := by unfold CountersTogether; decide
  windows := by unfold WindowsSound; decide
  widths := by unfold WidthsSound; decide
  reached := by unfold StateReached; decide
  outputs := by intro D h; cases h

theorem witness_StepKeepsTheInvariant : Inv (pending false) ∧ ∃ t, step (pending false) = .next t :=
  ⟨witness_inv, ⟨_, rfl⟩⟩

theorem witness_StepKeepsTheRunFlagSound : RunFlagSound (pending false) ∧ ∃ t, step (pending false) = .next t :=
  ⟨witness_inv.runFlag, ⟨_, rfl⟩⟩

theorem witness_StepKeepsTheCountersTogether : CountersTogether (pending false) ∧ ∃ t, step (pending false) = .next t :=
  ⟨witness_inv.counters, ⟨_, rfl⟩⟩

theorem witness_StepStaysInTheReachedStates : StateReached (pending false) ∧ ∃ t, step (pending false) = .next t :=
  ⟨witness_inv.reached, ⟨_, rfl⟩⟩

theorem witness_StepKeepsTheWindowsAndWidths : WindowsSound (pending false) ∧ WidthsSound (pending false) ∧
    (∃ t, step (pending false) = .next t) ∧ ∃ t, exec .run (pending false) = .next t :=
  ⟨witness_inv.windows, witness_inv.widths, ⟨_, rfl⟩, ⟨_, rfl⟩⟩

end Sys2Proof.Tests
end

section
/-! The host's register view (spec 10_state.md R32, R33). -/

namespace Sys2Proof.Proofs

open Sys2Proof.Machine

/-- The codes of R96 are 0 to 10. -/
theorem stateCode_le (st : TcpState) : stateCode st ≤ 10 := by
  cases st <;> decide

/-- R33: no register stands behind a number above RUN_EN's. -/
theorem readRegister_of_fourteen_le (s : State) {n : Nat} (h : 14 ≤ n) : readRegister s n = 0 := by
  obtain ⟨k, rfl⟩ := Nat.exists_eq_add_of_le' h
  rfl

/-- RUN_EN reads the flag as one bit. -/
theorem readRegister_runEn (s : State) : readRegister s 13 = if s.runEn then 1 else 0 :=
  Bool.cond_eq_ite s.runEn 1 0

/-- The reset column of R33: the fourteen registers one by one, then the numbers past them. -/
theorem readRegister_reset (n : Nat) : readRegister State.reset n = 0 := by
  obtain h | h := Nat.lt_or_ge n 14
  · have fourteen : ∀ m < 14, readRegister State.reset m = 0 := by decide
    exact fourteen n h
  · exact readRegister_of_fourteen_le _ h

/-- Settles O3: registers 0 to 12 are the fields by the definition of the read; the other parts are the lemmas above. -/
theorem registersReadTheFields : Obligations.RegistersReadTheFields := by
  unfold Obligations.RegistersReadTheFields
  refine ⟨fun s => ?_, readRegister_reset⟩
  exact ⟨rfl, rfl, rfl, rfl, rfl, rfl, rfl, rfl, rfl, rfl, rfl, rfl, rfl, readRegister_runEn s,
    stateCode_le s.ccb.state, fun _ => readRegister_of_fourteen_le s⟩

end Sys2Proof.Proofs
end

section
/-! Reading packed headers back (spec 30_encoding.md R82, R84, R87; 41_codec.md R141 to R147). -/

namespace Sys2Proof.Proofs

open Sys2Proof.Machine Sys2Proof.Laws

/-! Reading behind a leading field. -/

@[simp] theorem byteAt_put16_append (v : U16) (rest : Buffer) (i : Nat) :
    byteAt (put16 v ++ rest) (i + 2) = byteAt rest i := rfl

@[simp] theorem byteAt_put32_append (v : U32) (rest : Buffer) (i : Nat) :
    byteAt (put32 v ++ rest) (i + 4) = byteAt rest i := rfl

@[simp] theorem be16_put16_append (v : U16) (rest : Buffer) (i : Nat) :
    be16 (put16 v ++ rest) (i + 2) = be16 rest i := rfl

@[simp] theorem be16_put32_append (v : U32) (rest : Buffer) (i : Nat) :
    be16 (put32 v ++ rest) (i + 4) = be16 rest i := rfl

@[simp] theorem be32_put16_append (v : U16) (rest : Buffer) (i : Nat) :
    be32 (put16 v ++ rest) (i + 2) = be32 rest i := rfl

@[simp] theorem be32_put32_append (v : U32) (rest : Buffer) (i : Nat) :
    be32 (put32 v ++ rest) (i + 4) = be32 rest i := rfl

/-- `be16(put16(v)) = v`, for a field that ends the buffer (R10). -/
@[simp] theorem be16_put16_end (v : U16) : be16 (put16 v) 0 = v := be16_put16 v []

@[simp] theorem be32_put32_end (v : U32) : be32 (put32 v) 0 = v := be32_put32 v []

@[simp] theorem unpackIpv4_packIpv4 (h : IPv4Header) : unpackIpv4 (packIpv4 h) = h := by
  simp [unpackIpv4, packIpv4]

@[simp] theorem unpackTcp_packTcp (t : TCPHeader) : unpackTcp (packTcp t) = t := by
  simp [unpackTcp, packTcp]

/-- R87: the fields of the pseudo-header at their offsets. -/
theorem pseudoHeader_fields (src dst : U32) (n : Nat) :
    be32 (pseudoHeader src dst n) 0 = src ∧ be32 (pseudoHeader src dst n) 4 = dst ∧
      byteAt (pseudoHeader src dst n) 8 = 0 ∧ byteAt (pseudoHeader src dst n) 9 = 6 ∧
      be16 (pseudoHeader src dst n) 10 = BitVec.ofNat 16 (20 + n) := by
  simp [pseudoHeader]

/-- The segment length field holds its value for every payload TCPCSUM is defined for (R125). -/
theorem segmentLength_toNat {n : Nat} (h : n ≤ Config.maxTcpPayload) : (BitVec.ofNat 16 (20 + n)).toNat = 20 + n := by
  unfold Config.maxTcpPayload at h
  rw [BitVec.toNat_ofNat]
  omega

/-- PSEUDO inside its operand domain (R87). -/
theorem exec_pseudo (src dst : U32) {n : Nat} (s : State) (h : n ≤ Config.maxTcpPayload) :
    exec (.pseudo src dst n) s = .next (setResult (.buffer (pseudoHeader src dst n)) s) :=
  if_pos h

/-- Settles O18: the unit answers the pseudo-header, whose fields read back as laid out. -/
theorem pseudoHeaderHasItsLayout : Obligations.PseudoHeaderHasItsLayout := by
  unfold Obligations.PseudoHeaderHasItsLayout
  intro src dst n s hn
  obtain ⟨hsrc, hdst, hzero, hproto, hlen⟩ := pseudoHeader_fields src dst n
  refine ⟨pseudoHeader src dst n, exec_pseudo src dst s hn, pseudoHeader_length src dst n, hsrc, hdst, hzero, hproto,
    ?_⟩
  rw [hlen, segmentLength_toNat hn]

end Sys2Proof.Proofs
end

section
/-! State, status and verdict codes (spec 30_encoding.md R96, R98, R99). -/

namespace Sys2Proof.Proofs

/-- Settles O4: each table is a closed list, evaluated. -/
theorem codesAreTheTables : Obligations.CodesAreTheTables := by
  unfold Obligations.CodesAreTheTables
  exact ⟨rfl, rfl, rfl⟩

end Sys2Proof.Proofs
end

section
/-! Which receive classes hold for a segment, state by state (spec 30_encoding.md R91): the decoder's mask and match
against the flag tests of the rules (R172). -/

namespace Sys2Proof.Proofs

open Sys2Proof.Machine

/-- A mask of one bit leaves of a word either nothing or the mask. -/
theorem and_twoPow_cases {w : Nat} (x : BitVec w) (k : Nat) :
    x &&& BitVec.twoPow w k = 0 ∨ x &&& BitVec.twoPow w k = BitVec.twoPow w k := by
  rw [BitVec.and_twoPow]
  cases x.getLsbD k <;> simp

/-- For a mask that is met whole or not at all, the mask and match test of R91 is the flag test of R85. -/
theorem classMatch_mask {f mask : Byte} (hne : mask ≠ 0#8) (h : f &&& mask = 0 ∨ f &&& mask = mask) :
    classMatch f mask mask = flagSet f mask := by
  unfold classMatch flagSet
  rcases h with h | h
  · simp [h, hne.symm]
  · simp [h, hne]

/-- The test of RX.EST.FIN in R91 is the FIN test of R175. -/
theorem classMatch_fin (tcp : TCPHeader) : classMatch tcp.flags 0x01 0x01 = hasFin tcp :=
  classMatch_mask (by decide) (and_twoPow_cases tcp.flags 0)

/-- The test of RX.LASTACK.ACK in R91 is the ACK test of R176. -/
theorem classMatch_ack (tcp : TCPHeader) : classMatch tcp.flags 0x10 0x10 = hasAck tcp :=
  classMatch_mask (by decide) (and_twoPow_cases tcp.flags 4)

/-- The test of RX.SYNSENT.SYNACK in R91, both bits under one mask, is the SYN and ACK test of R173. -/
theorem classMatch_synAck (tcp : TCPHeader) : classMatch tcp.flags 0x12 0x12 = hasSynAck tcp := by
  have both : tcp.flags &&& 0x12 = (tcp.flags &&& synMask) ||| (tcp.flags &&& ackMask) := by
    rw [← BitVec.and_or_distrib_left]; rfl
  have hs : tcp.flags &&& synMask = 0 ∨ tcp.flags &&& synMask = synMask := and_twoPow_cases tcp.flags 1
  have ha : tcp.flags &&& ackMask = 0 ∨ tcp.flags &&& ackMask = ackMask := and_twoPow_cases tcp.flags 4
  unfold classMatch hasSynAck flagSet
  rw [both]
  rcases hs with hs | hs <;> rcases ha with ha | ha <;> rw [hs, ha] <;> rfl

/-- RX.EST.DATA asks nothing of the flags (R91). -/
theorem classMatch_any (f : Byte) : classMatch f 0x00 0x00 = true :=
  beq_iff_eq.mpr BitVec.and_zero

theorem hasFin_iff (tcp : TCPHeader) : hasFin tcp = true ↔ tcp.flags &&& 0x01 ≠ 0 := bne_iff_ne

theorem hasAck_iff (tcp : TCPHeader) : hasAck tcp = true ↔ tcp.flags &&& 0x10 ≠ 0 := bne_iff_ne

theorem hasSynAck_iff (tcp : TCPHeader) :
    hasSynAck tcp = true ↔ tcp.flags &&& 0x02 ≠ 0 ∧ tcp.flags &&& 0x10 ≠ 0 :=
  Bool.and_eq_true_iff.trans (and_congr bne_iff_ne bne_iff_ne)

/-- R91: the classes that act on a segment, each with the state and the test it asks for. -/
theorem actingClasses_eq (st : TcpState) (tcp : TCPHeader) (P : Buffer) :
    actingClasses st tcp P =
      (if st = .synSent ∧ hasSynAck tcp then [.rxSynsentSynack tcp P] else [])
        ++ (if st = .established ∧ P ≠ [] then [.rxEstData tcp P] else [])
        ++ (if st = .established ∧ hasFin tcp then [.rxEstFin tcp P] else [])
        ++ (if st = .lastAck ∧ hasAck tcp then [.rxLastackAck tcp P] else []) := by
  unfold actingClasses
  rw [classMatch_synAck, classMatch_any, classMatch_fin, classMatch_ack]
  simp

theorem decodeSegment_of_acting {st : TcpState} {tcp : TCPHeader} {P : Buffer} {ops : List Instr} (hne : ops ≠ [])
    (h : actingClasses st tcp P = ops) : decodeSegment st tcp P = ops := by
  subst h
  simp [decodeSegment, hne]

/-- RX.IGNORE when no class acts (R91). -/
theorem decodeSegment_of_none {st : TcpState} {tcp : TCPHeader} {P : Buffer} (h : actingClasses st tcp P = []) :
    decodeSegment st tcp P = [.rxIgnore tcp P] := by
  simp [decodeSegment, h]

/-- No class acts exactly where each rule of R173 to R176 misses its state or its test. -/
theorem actingClasses_eq_nil_iff (st : TcpState) (tcp : TCPHeader) (P : Buffer) :
    actingClasses st tcp P = [] ↔
      ¬ (st = .synSent ∧ hasSynAck tcp) ∧ ¬ (st = .established ∧ (P ≠ [] ∨ hasFin tcp)) ∧
        ¬ (st = .lastAck ∧ hasAck tcp) := by
  rw [actingClasses_eq]
  cases st <;> simp

end Sys2Proof.Proofs
end

section
/-! Decoding what the encoder presents (spec 30_encoding.md R105). -/

namespace Sys2Proof.Proofs

open Sys2Proof.Machine Sys2Proof.Laws

/-! The headers the send path builds read back as the records they were built from. -/

theorem unpackIpv4_buildIpv4 (n : Nat) (ipId : U16) (src dst : U32) :
    unpackIpv4 (buildIpv4 n ipId src dst) =
      { bareIpv4 n ipId src dst with checksum := internetChecksum (packIpv4 (bareIpv4 n ipId src dst)) } := by
  rw [buildIpv4, memWrite16_packIpv4, unpackIpv4_packIpv4]

theorem unpackTcp_buildTcp (sp dp : U16) (seq ack : U32) (flags : Byte) (window : U16) (src dst : U32) (P : Buffer) :
    unpackTcp (buildTcp sp dp seq ack flags window src dst P) =
      { bareTcp sp dp seq ack flags window with
        checksum := tcpChecksum (packTcp (bareTcp sp dp seq ack flags window)) src dst P } := by
  rw [buildTcp, memWrite16_packTcp, unpackTcp_packTcp]

/-- The total length field holds its value for every payload SEND accepts (D27). -/
theorem totalLength_toNat {n : Nat} (h : n ≤ Config.maxPayload) : (BitVec.ofNat 16 (40 + n)).toNat = 40 + n := by
  unfold Config.maxPayload at h
  rw [BitVec.toNat_ofNat]
  omega

theorem decodeBuiltIpv4_buildIpv4 {n : Nat} (ipId : U16) (src dst : U32) (h : n ≤ Config.maxPayload) :
    decodeBuiltIpv4 (buildIpv4 n ipId src dst) = .ok (.encIpv4 n ipId src dst) := by
  have hlen : 40 + n - 40 = n := Nat.add_sub_cancel_left 40 n
  simp [decodeBuiltIpv4, unpackIpv4_buildIpv4, bareIpv4, totalLength_toNat h, hlen]

theorem decodeBuiltTcp_buildTcp (sp dp : U16) (seq ack : U32) (flags : Byte) (window : U16) (src dst : U32)
    (P : Buffer) : decodeBuiltTcp (buildTcp sp dp seq ack flags window src dst P) src dst P =
      .ok (.encTcp sp dp seq ack flags window src dst P) := by
  simp [decodeBuiltTcp, unpackTcp_buildTcp, bareTcp]

theorem decodePseudo_pseudoHeader {n : Nat} (src dst : U32) (h : n ≤ Config.maxTcpPayload) :
    decodePseudo (pseudoHeader src dst n) = .ok (.pseudo src dst n) := by
  obtain ⟨hsrc, hdst, _, _, hlen⟩ := pseudoHeader_fields src dst n
  have hn : 20 + n - 20 = n := Nat.add_sub_cancel_left 20 n
  simp [decodePseudo, hsrc, hdst, hlen, segmentLength_toNat h, hn]

theorem ofTwentyBytes_of_length {image : Buffer} (h : image.length = 20) (r : Except DecodeError (List Instr)) :
    ofTwentyBytes image r = r :=
  if_pos h

/-- An opcode that is none of the four of R100 selects the reserved row (R101). -/
theorem decodeCommand_reserved (params : OpenParams) (st : TcpState) (opcode : Byte)
    (h : wellFormed params (.cmdReserved opcode) = true) :
    decodeCommand st (bareCommand opcode) = .cmdReserved opcode := by
  obtain ⟨⟨⟨h1, h2⟩, h3⟩, h4⟩ : ((opcode ≠ 1#8 ∧ opcode ≠ 2#8) ∧ opcode ≠ 3#8) ∧ opcode ≠ 4#8 := by
    simpa [wellFormed] using h
  simp [decodeCommand, bareCommand, h1, h2, h3, h4]

/-- TX.PSHACK carries any payload SEND accepts (R90). -/
theorem decodeTransmit_pshAck {P : Buffer} (h : P.length ≤ Config.maxPayload) :
    decodeTransmit 0x18 P = .ok (.txPshack P) :=
  if_pos h

/-! The statement for one operation, and the three ways to it. -/

/-- What is presented for the operation is decoded, in protocol state `st`, to operations presented by the same words,
the operation among them (R105). -/
def DecodesBack (st : TcpState) (i : Instr) : Prop :=
  ∀ p, encode i = some p → ∃ ops, decode st p = .ok ops ∧ i ∈ ops ∧ ∀ j ∈ ops, encode j = some p

/-- An operation that is the only one its words select. -/
theorem decodesBack_of_one {st : TcpState} {i : Instr} {p : Presented} (henc : encode i = some p)
    (hdec : decode st p = .ok [i]) : DecodesBack st i := by
  intro q hq
  obtain rfl : p = q := Option.some.inj (henc.symm.trans hq)
  exact ⟨[i], hdec, List.mem_singleton_self i, fun j hj => List.mem_singleton.mp hj ▸ henc⟩

/-- The rows whose encoding is none (R105). -/
theorem decodesBack_of_none {st : TcpState} {i : Instr} (henc : encode i = none) : DecodesBack st i := by
  intro p hp
  cases henc.symm.trans hp

/-- R91, the classes that act on a segment one by one. -/
theorem mem_actingClasses {st : TcpState} {tcp : TCPHeader} {P : Buffer} {i : Instr} :
    i ∈ actingClasses st tcp P ↔
      (st = .synSent ∧ hasSynAck tcp = true) ∧ i = .rxSynsentSynack tcp P ∨
      (st = .established ∧ P ≠ []) ∧ i = .rxEstData tcp P ∨
      (st = .established ∧ hasFin tcp = true) ∧ i = .rxEstFin tcp P ∨
      (st = .lastAck ∧ hasAck tcp = true) ∧ i = .rxLastackAck tcp P := by
  rw [actingClasses_eq]
  simp only [List.mem_append, List.mem_ite_nil_right, List.mem_singleton, or_assoc]

/-- Every class a segment decodes to is presented by that segment. -/
theorem encode_of_mem_decodeSegment {st : TcpState} {tcp : TCPHeader} {P : Buffer} {i : Instr}
    (h : i ∈ decodeSegment st tcp P) : encode i = some (.segment (packTcp tcp) P) := by
  unfold decodeSegment at h
  split at h
  · obtain rfl := List.mem_singleton.mp h
    rfl
  · obtain ⟨_, rfl⟩ | ⟨_, rfl⟩ | ⟨_, rfl⟩ | ⟨_, rfl⟩ := mem_actingClasses.mp h <;> rfl

/-- A receive class the decoder names for a segment. -/
theorem decodesBack_of_mem_decodeSegment {st : TcpState} {tcp : TCPHeader} {P : Buffer} {i : Instr}
    (h : i ∈ decodeSegment st tcp P) : DecodesBack st i := by
  intro q hq
  obtain rfl : .segment (packTcp tcp) P = q := Option.some.inj ((encode_of_mem_decodeSegment h).symm.trans hq)
  refine ⟨decodeSegment st tcp P, ?_, h, fun j hj => encode_of_mem_decodeSegment hj⟩
  rw [decode, ofTwentyBytes_of_length (packTcp_length tcp), unpackTcp_packTcp]

theorem decodesBack_of_mem_actingClasses {st : TcpState} {tcp : TCPHeader} {P : Buffer} {i : Instr}
    (h : i ∈ actingClasses st tcp P) : DecodesBack st i := by
  refine decodesBack_of_mem_decodeSegment (tcp := tcp) (P := P) ?_
  rwa [decodeSegment_of_acting (List.ne_nil_of_mem h) rfl]

/-- R105, operation by operation: the row's own words, or the segment's classes, or no encoding. -/
theorem decodesBack (params : OpenParams) (st : TcpState) (i : Instr) (wf : wellFormed params i = true)
    (sel : rowSelected st i = true) : DecodesBack st i := by
  cases i with
  | connect addr port => exact decodesBack_of_one rfl rfl
  | send data => exact decodesBack_of_one rfl rfl
  | closeEstablished =>
    obtain rfl : st = .established := by simpa [rowSelected] using sel
    exact decodesBack_of_one rfl rfl
  | closeRelease =>
    have hst : st ≠ .established := by simpa [rowSelected] using sel
    exact decodesBack_of_one rfl (by simp [decode, decodeCommand, bareCommand, hst])
  | run => exact decodesBack_of_one rfl rfl
  | cmdReserved opcode =>
    exact decodesBack_of_one rfl (by rw [decode, decodeCommand_reserved params st opcode wf])
  | txSyn => exact decodesBack_of_one rfl rfl
  | txAck => exact decodesBack_of_one rfl rfl
  | txFinack => exact decodesBack_of_one rfl rfl
  | txPshack P => exact decodesBack_of_one rfl (by rw [decode, decodeTransmit_pshAck (of_decide_eq_true wf), oneOf])
  | rxSynsentSynack tcp P =>
    have test : hasSynAck tcp = true := (classMatch_synAck tcp).symm.trans wf
    exact decodesBack_of_mem_actingClasses (mem_actingClasses.mpr (.inl ⟨⟨beq_iff_eq.mp sel, test⟩, rfl⟩))
  | rxEstData tcp P =>
    have test : P ≠ [] := by simpa [wellFormed] using wf
    exact decodesBack_of_mem_actingClasses (mem_actingClasses.mpr (.inr (.inl ⟨⟨beq_iff_eq.mp sel, test⟩, rfl⟩)))
  | rxEstFin tcp P =>
    have test : hasFin tcp = true := (classMatch_fin tcp).symm.trans wf
    exact decodesBack_of_mem_actingClasses
      (mem_actingClasses.mpr (.inr (.inr (.inl ⟨⟨beq_iff_eq.mp sel, test⟩, rfl⟩))))
  | rxLastackAck tcp P =>
    have test : hasAck tcp = true := (classMatch_ack tcp).symm.trans wf
    exact decodesBack_of_mem_actingClasses
      (mem_actingClasses.mpr (.inr (.inr (.inr ⟨⟨beq_iff_eq.mp sel, test⟩, rfl⟩))))
  | rxIgnore tcp P =>
    have only : decodeSegment st tcp P = [.rxIgnore tcp P] := decodeSegment_of_none (List.isEmpty_iff.mp sel)
    exact decodesBack_of_mem_decodeSegment (only ▸ List.mem_singleton_self _)
  | packIpv4 header =>
    refine decodesBack_of_one rfl ?_
    rw [decode, ofTwentyBytes_of_length (packIpv4_length header), unpackIpv4_packIpv4]
  | decIpv4 B => exact decodesBack_of_one rfl (if_pos (of_decide_eq_true wf))
  | encIpv4 n ipId src dst =>
    refine decodesBack_of_one rfl ?_
    rw [decode, ofTwentyBytes_of_length (buildIpv4_length n ipId src dst),
      decodeBuiltIpv4_buildIpv4 ipId src dst (of_decide_eq_true wf), oneOf]
  | packTcp header =>
    refine decodesBack_of_one rfl ?_
    rw [decode, ofTwentyBytes_of_length (packTcp_length header), unpackTcp_packTcp]
  | decTcp T => exact decodesBack_of_one rfl (if_pos (of_decide_eq_true wf))
  | encTcp sp dp seq ack flags window src dst P =>
    refine decodesBack_of_one rfl ?_
    rw [decode, ofTwentyBytes_of_length (buildTcp_length sp dp seq ack flags window src dst P),
      decodeBuiltTcp_buildTcp, oneOf]
  | pseudo src dst n =>
    refine decodesBack_of_one rfl ?_
    rw [decode, if_pos (pseudoHeader_length src dst n), decodePseudo_pseudoHeader src dst (of_decide_eq_true wf), oneOf]
  | ocsum | csum | csumok | tcpcsum | decDgram | filterIp | filterPort | handle | sendseg | rxDatagram | rxTimeout
  | rxError | reset => exact decodesBack_of_none rfl

/-- Settles O5, operation by operation. -/
theorem decodeOfEncodeIsTheOperation : Obligations.DecodeOfEncodeIsTheOperation := by
  unfold Obligations.DecodeOfEncodeIsTheOperation
  exact fun params st i p wf sel => decodesBack params st i wf sel p

end Sys2Proof.Proofs
end

section
/-! What HANDLE selects (spec 30_encoding.md R91; 42_state_machine.md R171, R178): the rule HANDLE runs is the one of the
class the decoder names. -/

namespace Sys2Proof.Proofs

open Sys2Proof.Machine Sys2Proof.Laws

/-! HANDLE and each receive class where its condition holds. -/

theorem exec_handle (tcp : TCPHeader) (P : Buffer) (s : State) :
    exec (.handle tcp P) s = .next (outcomeAlone (handleSegment tcp P s)) := rfl

theorem exec_rxIgnore (tcp : TCPHeader) (P : Buffer) (s : State) :
    exec (.rxIgnore tcp P) s = .next (outcomeAlone (ruleIgnore s)) := rfl

theorem exec_rxSynsentSynack {tcp : TCPHeader} (P : Buffer) {s : State} (hs : s.ccb.state = .synSent)
    (ht : hasSynAck tcp = true) : exec (.rxSynsentSynack tcp P) s = .next (outcomeAlone (ruleSynAck tcp s)) := by
  simp [exec, execRxSynsentSynack, hs, ht]

theorem exec_rxEstData (tcp : TCPHeader) {P : Buffer} {s : State} (hs : s.ccb.state = .established)
    (hP : P ≠ []) : exec (.rxEstData tcp P) s = .next (outcomeAlone (ruleData P s)) := by
  simp [exec, execRxEstData, hs, hP]

theorem exec_rxEstFin {tcp : TCPHeader} (P : Buffer) {s : State} (hs : s.ccb.state = .established)
    (ht : hasFin tcp = true) : exec (.rxEstFin tcp P) s = .next (outcomeAlone (ruleFin s)) := by
  simp [exec, execRxEstFin, hs, ht]

theorem exec_rxLastackAck {tcp : TCPHeader} (P : Buffer) {s : State} (hs : s.ccb.state = .lastAck)
    (ht : hasAck tcp = true) : exec (.rxLastackAck tcp P) s = .next (outcomeAlone (ruleLastAck s)) := by
  simp [exec, execRxLastackAck, hs, ht]

theorem handleSegment_synSent {tcp : TCPHeader} (P : Buffer) {s : State} (hs : s.ccb.state = .synSent)
    (ht : hasSynAck tcp = true) : handleSegment tcp P s = ruleSynAck tcp s := by
  simp [handleSegment, hs, ht]

theorem handleSegment_established (tcp : TCPHeader) (P : Buffer) {s : State} (hs : s.ccb.state = .established) :
    handleSegment tcp P s = handleEstablished tcp P s := by
  simp [handleSegment, hs]

theorem handleSegment_lastAck {tcp : TCPHeader} (P : Buffer) {s : State} (hs : s.ccb.state = .lastAck)
    (ht : hasAck tcp = true) : handleSegment tcp P s = ruleLastAck s := by
  simp [handleSegment, hs, ht]

/-- HANDLE ignores a segment no class of which acts (R177). -/
theorem handleSegment_ignored {tcp : TCPHeader} {P : Buffer} {s : State}
    (h : actingClasses s.ccb.state tcp P = []) : handleSegment tcp P s = ruleIgnore s := by
  obtain ⟨hsyn, hest, hlast⟩ := (actingClasses_eq_nil_iff s.ccb.state tcp P).mp h
  obtain ⟨hs, ht, _⟩ | ⟨hs, e⟩ | ⟨hs, ht, _⟩ | e := handleSegment_cases tcp P s
  · exact absurd ⟨hs, ht⟩ hsyn
  · obtain ⟨hP, hfin⟩ : P = [] ∧ hasFin tcp = false := by simpa [hs] using hest
    rw [e]
    simp [handleEstablished, ruleIgnore, hP, hfin]
  · exact absurd ⟨hs, ht⟩ hlast
  · exact e

/-! The ESTABLISHED arm (R178). -/

theorem handleEstablished_noFin {tcp : TCPHeader} {P : Buffer} (s : State) (hP : P ≠ []) (hf : hasFin tcp = false) :
    handleEstablished tcp P s = ruleData P s := by
  simp [handleEstablished, hP, hf]

theorem handleEstablished_finOnly {tcp : TCPHeader} (s : State) (hf : hasFin tcp = true) :
    handleEstablished tcp [] s = ruleFin s := by
  simp [handleEstablished, ruleIgnore, hf]

/-- A segment with payload and FIN: the data rule's failed send ends it, else the FIN rule follows. -/
theorem handleEstablished_dataFin {tcp : TCPHeader} {P : Buffer} (s : State) (hP : P ≠ []) (hf : hasFin tcp = true) :
    (ruleData P s).1 = .abortSendFailed ∧ handleEstablished tcp P s = ruleData P s ∨
    (ruleData P s).1 = .handled ∧ handleEstablished tcp P s = ruleFin (ruleData P s).2 := by
  obtain ⟨_, hd, e⟩ | ⟨_, hd, _, e⟩ | ⟨_, _, hf', _⟩ | ⟨hP', _⟩ | ⟨hP', _⟩ := handleEstablished_cases tcp P s
  · exact .inl ⟨hd, e⟩
  · exact .inr ⟨hd, e⟩
  · simp [hf] at hf'
  · exact absurd hP' hP
  · exact absurd hP' hP

/-- Inbound data leaves the protocol state alone (R174). -/
theorem ruleData_state (P : Buffer) (s : State) : (ruleData P s).2.ccb.state = s.ccb.state := by
  unfold ruleData
  dsimp only
  split <;> simp

/-! A unit's result is read by no rule: it stays until the outcome of the next operation replaces it. -/

theorem drawTransmit_of_setResult (r : UnitResult) (s : State) :
    drawTransmit (setResult r s) = ((drawTransmit s).1, setResult r (drawTransmit s).2) := by
  cases h : s.transmitDraws <;> simp [drawTransmit, setResult, h]

theorem sendSegment_of_setResult (flags : Byte) (P : Buffer) (r : UnitResult) (s : State) :
    sendSegment flags P (setResult r s) = ((sendSegment flags P s).1, setResult r (sendSegment flags P s).2) := by
  obtain ⟨h, e⟩ | ⟨h, e⟩ := sendSegment_cases flags P s
  · rw [sendSegment_sent _ _ _ (by rwa [drawTransmit_of_setResult]), e, drawTransmit_of_setResult]
    rfl
  · rw [sendSegment_failed _ _ _ (by rwa [drawTransmit_of_setResult]), e, drawTransmit_of_setResult]

theorem ruleFin_of_setResult (r : UnitResult) (s : State) :
    ruleFin (setResult r s) = ((ruleFin s).1, setResult r (ruleFin s).2) := by
  have pre : setTcpState .closeWait (advanceReceive 1 (setResult r s)) =
      setResult r (setTcpState .closeWait (advanceReceive 1 s)) := rfl
  unfold ruleFin
  simp only [pre, sendSegment_of_setResult]
  split
  · split <;> rfl
  · rfl

/-- The FIN rule run by itself after another rule answers as it does right after that rule. -/
theorem outcomeAlone_ruleFin_of_outcomeAlone (ran : HandleOutcome × State) :
    outcomeAlone (ruleFin (outcomeAlone ran)) = outcomeAlone (ruleFin ran.2) := by
  have h : ruleFin (outcomeAlone ran) = _ := ruleFin_of_setResult (.outcome ran.1) ran.2
  rw [h]
  rfl

/-! HANDLE against the classes, clause by clause. -/

/-- The decoder names the one class `i`, and HANDLE does what `i` does (R91, R171). -/
def SelectsOnly (tcp : TCPHeader) (P : Buffer) (s : State) (i : Instr) : Prop :=
  decodeSegment s.ccb.state tcp P = [i] ∧ exec (.handle tcp P) s = exec i s

section
variable {tcp : TCPHeader} {P : Buffer} {s : State}

theorem selectsOnly_synAck (hs : s.ccb.state = .synSent) (ht : hasSynAck tcp = true) :
    SelectsOnly tcp P s (.rxSynsentSynack tcp P) := by
  constructor
  · exact decodeSegment_of_acting (List.cons_ne_nil _ _) (by simp [actingClasses_eq, hs, ht])
  · rw [exec_handle, handleSegment_synSent P hs ht, exec_rxSynsentSynack P hs ht]

theorem selectsOnly_data (hs : s.ccb.state = .established) (hP : P ≠ []) (hf : hasFin tcp = false) :
    SelectsOnly tcp P s (.rxEstData tcp P) := by
  constructor
  · exact decodeSegment_of_acting (List.cons_ne_nil _ _) (by simp [actingClasses_eq, hs, hP, hf])
  · rw [exec_handle, handleSegment_established tcp P hs, handleEstablished_noFin s hP hf, exec_rxEstData tcp hs hP]

theorem selectsOnly_fin (hs : s.ccb.state = .established) (hf : hasFin tcp = true) :
    SelectsOnly tcp [] s (.rxEstFin tcp []) := by
  constructor
  · exact decodeSegment_of_acting (List.cons_ne_nil _ _) (by simp [actingClasses_eq, hs, hf])
  · rw [exec_handle, handleSegment_established tcp [] hs, handleEstablished_finOnly s hf, exec_rxEstFin [] hs hf]

theorem decodeSegment_dataFin (hs : s.ccb.state = .established) (hP : P ≠ []) (hf : hasFin tcp = true) :
    decodeSegment s.ccb.state tcp P = [.rxEstData tcp P, .rxEstFin tcp P] :=
  decodeSegment_of_acting (List.cons_ne_nil _ _) (by simp [actingClasses_eq, hs, hP, hf])

/-- R178: data first; FIN from the state the data rule leaves, unless its send failed. -/
theorem exec_handle_dataFin (hs : s.ccb.state = .established) (hP : P ≠ []) (hf : hasFin tcp = true) :
    ∃ u, exec (.rxEstData tcp P) s = .next u ∧
      ((u.result = some (.outcome .abortSendFailed) ∧ exec (.handle tcp P) s = .next u) ∨
        (u.result = some (.outcome .handled) ∧ exec (.handle tcp P) s = exec (.rxEstFin tcp P) u)) := by
  refine ⟨outcomeAlone (ruleData P s), exec_rxEstData tcp hs hP, ?_⟩
  rw [exec_handle, handleSegment_established tcp P hs]
  obtain ⟨hd, e⟩ | ⟨hd, e⟩ := handleEstablished_dataFin s hP hf
  · exact .inl ⟨by rw [outcomeAlone, setResult_result, hd], by rw [e]⟩
  · have hu : (outcomeAlone (ruleData P s)).ccb.state = .established := (ruleData_state P s).trans hs
    refine .inr ⟨by rw [outcomeAlone, setResult_result, hd], ?_⟩
    rw [e, exec_rxEstFin P hu hf, outcomeAlone_ruleFin_of_outcomeAlone]

theorem selectsOnly_lastAck (hs : s.ccb.state = .lastAck) (ht : hasAck tcp = true) :
    SelectsOnly tcp P s (.rxLastackAck tcp P) := by
  constructor
  · exact decodeSegment_of_acting (List.cons_ne_nil _ _) (by simp [actingClasses_eq, hs, ht])
  · rw [exec_handle, handleSegment_lastAck P hs ht, exec_rxLastackAck P hs ht]

theorem selectsOnly_ignore (h : actingClasses s.ccb.state tcp P = []) : SelectsOnly tcp P s (.rxIgnore tcp P) :=
  ⟨decodeSegment_of_none h, by rw [exec_handle, handleSegment_ignored h, exec_rxIgnore]⟩

end

/-- Settles O35: the clauses are those above, the flag tests written as masks. -/
theorem handleSelectsByStateAndFlags : Obligations.HandleSelectsByStateAndFlags := by
  unfold Obligations.HandleSelectsByStateAndFlags
  intro tcp P s syn ack fin selects
  have hfin : hasFin tcp = true ↔ fin := hasFin_iff tcp
  have hack : hasAck tcp = true ↔ ack := hasAck_iff tcp
  have hsynAck : hasSynAck tcp = true ↔ syn ∧ ack := hasSynAck_iff tcp
  refine ⟨fun hs h1 h2 => ?_, fun hs hP hf => ?_, fun hs hP hf => ?_, fun hs hP hf => ?_, fun hs h => ?_,
    fun h1 h2 h3 => ?_⟩
  · exact selectsOnly_synAck hs (hsynAck.mpr ⟨h1, h2⟩)
  · exact selectsOnly_data hs hP (Bool.eq_false_iff.mpr fun h => hf (hfin.mp h))
  · subst hP
    exact selectsOnly_fin hs (hfin.mpr hf)
  · exact ⟨decodeSegment_dataFin hs hP (hfin.mpr hf), exec_handle_dataFin hs hP (hfin.mpr hf)⟩
  · exact selectsOnly_lastAck hs (hack.mpr h)
  · refine selectsOnly_ignore ((actingClasses_eq_nil_iff s.ccb.state tcp P).mpr ?_)
    rw [hsynAck, hfin, hack]
    exact ⟨h1, h2, h3⟩

end Sys2Proof.Proofs
end

section
/-! CSUM and TCPCSUM executed by themselves (spec 40_checksum.md R122, R123, R125). -/

namespace Sys2Proof.Proofs

open Sys2Proof.Machine Sys2Proof.Laws

/-- CSUM answers on every buffer (R122). -/
theorem exec_csum (B : Buffer) (s : State) :
    exec (.csum B) s = .next (setResult (.word (internetChecksum B)) s) := rfl

/-- R122: subtracting from all ones borrows nowhere, so it flips every bit. -/
theorem internetChecksum_eq_not (B : Buffer) : internetChecksum B = ~~~ (onesSum B) :=
  BitVec.allOnes_sub_eq_not (onesSum B)

/-- R123: the empty buffer. -/
@[simp] theorem internetChecksum_nil : internetChecksum [] = 0xFFFF := rfl

/-- Settles O9: `internetChecksum` is defined as the difference, which is the complement. -/
theorem csumIsTheComplement : Obligations.CsumIsTheComplement := by
  unfold Obligations.CsumIsTheComplement
  refine ⟨fun B s => ⟨exec_csum B s, internetChecksum_eq_not B⟩, fun s => ?_⟩
  rw [exec_csum, internetChecksum_nil]
  rfl

/-- A second write of the same two bytes hides the first (R12). -/
theorem memWrite16_memWrite16 {B : Buffer} {i : Nat} (v w : U16) (h : i ≤ B.length) :
    memWrite16 (memWrite16 B i v) i w = memWrite16 B i w := by
  have before : (memWrite16 B i v).take i = B.take i := by
    rw [memWrite16, List.append_assoc]
    exact List.take_left' (List.length_take_of_le h)
  have after : (memWrite16 B i v).drop (i + 2) = B.drop (i + 2) :=
    List.drop_left' (by rw [List.length_append, List.length_take_of_le h, put16_length])
  rw [memWrite16, before, after, memWrite16]

/-- R125: the field is zeroed before the pass, so what it held does not matter. -/
theorem tcpChecksum_memWrite16 {H : Buffer} (src dst : U32) (P : Buffer) (v : U16) (h : 16 ≤ H.length) :
    tcpChecksum (memWrite16 H 16 v) src dst P = tcpChecksum H src dst P := by
  rw [tcpChecksum, memWrite16_memWrite16 v 0 h, tcpChecksum]

/-- TCPCSUM inside its operand domain (R125). -/
theorem exec_tcpcsum {H : Buffer} (src dst : U32) {P : Buffer} (s : State) (hH : H.length = 20)
    (hP : P.length ≤ Config.maxTcpPayload) :
    exec (.tcpcsum H src dst P) s = .next (setResult (.word (tcpChecksum H src dst P)) s) :=
  if_pos ⟨hH, hP⟩

/-- Settles O12: the unit zeroes the field itself, so a value stored there first is hidden; the buffer it then sums is
the stated one by the definitions of the pseudo-header and of the write. -/
theorem tcpcsumZeroesItsField : Obligations.TcpcsumZeroesItsField := by
  unfold Obligations.TcpcsumZeroesItsField
  intro H src dst P v s hH hP
  have stored : (memWrite16 H 16 v).length = 20 := by rw [memWrite16_length H 16 v (by omega), hH]
  rw [exec_tcpcsum src dst s stored hP, tcpChecksum_memWrite16 src dst P v (by omega)]
  rfl

end Sys2Proof.Proofs
end

section
/-! The bytes and fields of the two headers at their places in the layouts (spec 30_encoding.md R81, R82, R84;
41_codec.md R141, R142, R145, R146). -/

namespace Sys2Proof.Proofs

open Sys2Proof.Machine

/-! A shared byte: its fields side by side, the first-listed at the top, and each field cut out again (R81). -/

theorem nibbles_eq_append (hi lo : BitVec 4) : nibbles hi lo = hi ++ lo := by
  apply BitVec.eq_of_toNat_eq
  have := hi.isLt
  have := lo.isLt
  rw [nibbles, BitVec.toNat_ofNat, BitVec.toNat_append, ← Nat.shiftLeft_add_eq_or_of_lt lo.isLt, Nat.shiftLeft_eq]
  omega

theorem offsetByte_eq_append (d : BitVec 4) (r : BitVec 3) (n : BitVec 1) : offsetByte d r n = d ++ r ++ n := by
  apply BitVec.eq_of_toNat_eq
  have := d.isLt
  have := r.isLt
  have := n.isLt
  rw [offsetByte, BitVec.toNat_ofNat, BitVec.toNat_append, ← Nat.shiftLeft_add_eq_or_of_lt n.isLt,
    BitVec.toNat_append, ← Nat.shiftLeft_add_eq_or_of_lt r.isLt, Nat.shiftLeft_eq, Nat.shiftLeft_eq]
  omega

theorem toNat_and_fifteen (b : Byte) : (b &&& 15).toNat = b.toNat % 16 :=
  Nat.and_two_pow_sub_one_eq_mod b.toNat 4

theorem toNat_shiftRight_four (b : Byte) : (b >>> 4).toNat = b.toNat / 16 := by
  rw [BitVec.toNat_ushiftRight, Nat.shiftRight_eq_div_pow]

theorem hiNibble_eq_shift (b : Byte) : hiNibble b = (b >>> 4).setWidth 4 := by
  apply BitVec.eq_of_toNat_eq
  rw [hiNibble, BitVec.toNat_ofNat, BitVec.toNat_setWidth, toNat_shiftRight_four]

theorem loNibble_eq_mask (b : Byte) : loNibble b = (b &&& 15).setWidth 4 := by
  apply BitVec.eq_of_toNat_eq
  rw [loNibble, BitVec.toNat_ofNat, BitVec.toNat_setWidth, toNat_and_fifteen, Nat.mod_mod]

theorem reservedBits_eq_mask (b : Byte) : reservedBits b = ((b >>> 1) &&& 7).setWidth 3 := by
  apply BitVec.eq_of_toNat_eq
  have masked : ((b >>> 1) &&& 7).toNat = b.toNat / 2 % 8 := Nat.and_two_pow_sub_one_eq_mod (b.toNat / 2) 3
  rw [reservedBits, BitVec.toNat_ofNat, BitVec.toNat_setWidth, masked, Nat.mod_mod]

theorem nsBit_eq_mask (b : Byte) : nsBit b = (b &&& 1).setWidth 1 := by
  apply BitVec.eq_of_toNat_eq
  have masked : (b &&& 1).toNat = b.toNat % 2 := Nat.and_two_pow_sub_one_eq_mod b.toNat 1
  rw [nsBit, BitVec.toNat_ofNat, BitVec.toNat_setWidth, masked, Nat.mod_mod]

/-! Bytes behind a field do not matter to it. -/

section
variable {B : Buffer} (rest : Buffer)

theorem byteAt_append {i : Nat} (h : i < B.length) : byteAt (B ++ rest) i = byteAt B i :=
  List.getD_append B rest 0 i h

theorem be16_append {i : Nat} (h : i + 1 < B.length) : be16 (B ++ rest) i = be16 B i := by
  rw [be16, byteAt_append rest (by omega), byteAt_append rest h, be16]

theorem be32_append {i : Nat} (h : i + 3 < B.length) : be32 (B ++ rest) i = be32 B i := by
  rw [be32, byteAt_append rest (by omega), byteAt_append rest (by omega), byteAt_append rest (by omega),
    byteAt_append rest h, be32]

/-- R142: DEC.IPV4 reads bytes 0 to 19 only. -/
theorem unpackIpv4_append (h : 20 ≤ B.length) : unpackIpv4 (B ++ rest) = unpackIpv4 B := by
  simp (disch := omega) only [unpackIpv4, byteAt_append, be16_append, be32_append]

/-- R146: DEC.TCP reads bytes 0 to 19 only. -/
theorem unpackTcp_append (h : 20 ≤ B.length) : unpackTcp (B ++ rest) = unpackTcp B := by
  simp (disch := omega) only [unpackTcp, byteAt_append, be16_append, be32_append]

end

/-! The field encoders and decoders executed by themselves. -/

theorem exec_packIpv4 (h : IPv4Header) (s : State) :
    exec (.packIpv4 h) s = .next (setResult (.buffer (packIpv4 h)) s) := rfl

theorem exec_packTcp (t : TCPHeader) (s : State) :
    exec (.packTcp t) s = .next (setResult (.buffer (packTcp t)) s) := rfl

theorem exec_decIpv4 {B : Buffer} (s : State) (h : 20 ≤ B.length) :
    exec (.decIpv4 B) s = .next (setResult (.ipv4 (unpackIpv4 B)) s) :=
  if_pos h

theorem exec_decTcp {T : Buffer} (s : State) (h : 20 ≤ T.length) :
    exec (.decTcp T) s = .next (setResult (.tcp (unpackTcp T)) s) :=
  if_pos h

/-- Settles O15: the encoders list the fields with the shared bytes as concatenations; the decoders see the first twenty
bytes and cut the shared bytes by shift and mask. -/
theorem headerCodecFollowsTheLayout : Obligations.HeaderCodecFollowsTheLayout := by
  unfold Obligations.HeaderCodecFollowsTheLayout
  refine ⟨fun h s => ?_, fun t s => ?_, fun B rest s hB => ?_, fun T rest s hT => ?_⟩
  · rw [exec_packIpv4, packIpv4, nibbles_eq_append]
    rfl
  · rw [exec_packTcp, packTcp, offsetByte_eq_append]
    rfl
  · have long : 20 ≤ (B ++ rest).length := by rw [List.length_append]; omega
    rw [exec_decIpv4 s long, unpackIpv4_append rest hB.ge, unpackIpv4, hiNibble_eq_shift, loNibble_eq_mask]
    rfl
  · have long : 20 ≤ (T ++ rest).length := by rw [List.length_append]; omega
    rw [exec_decTcp s long, unpackTcp_append rest hT.ge, unpackTcp, hiNibble_eq_shift, reservedBits_eq_mask,
      nsBit_eq_mask]
    rfl

end Sys2Proof.Proofs
end

section
/-! The headers ENC.IPV4 and ENC.TCP build (spec 41_codec.md R143, R147). -/

namespace Sys2Proof.Proofs

open Sys2Proof.Machine Sys2Proof.Laws

/-- ENC.IPV4 inside its operand domain (R143). -/
theorem exec_encIpv4 {n : Nat} (ipId : U16) (src dst : U32) (s : State) (h : n ≤ Config.maxPayload) :
    exec (.encIpv4 n ipId src dst) s = .next (setResult (.buffer (buildIpv4 n ipId src dst)) s) :=
  if_pos h

/-- ENC.TCP inside its operand domain (R147). -/
theorem exec_encTcp (sp dp : U16) (seq ack : U32) (flags : Byte) (w : U16) (src dst : U32) {P : Buffer} (s : State)
    (h : P.length ≤ Config.maxTcpPayload) :
    exec (.encTcp sp dp seq ack flags w src dst P) s =
      .next (setResult (.buffer (buildTcp sp dp seq ack flags w src dst P)) s) :=
  if_pos h

/-- Zeroing the checksum of a built header gives back `h0` of R143, over which the checksum was taken. -/
theorem memWrite16_zero_buildIpv4 (n : Nat) (ipId : U16) (src dst : U32) :
    memWrite16 (buildIpv4 n ipId src dst) 10 0 = packIpv4 (bareIpv4 n ipId src dst) := by
  rw [buildIpv4, memWrite16_packIpv4, memWrite16_packIpv4]
  rfl

/-- Zeroing the checksum of a built header gives back the header of R147 with `checksum = 0`. -/
theorem memWrite16_zero_buildTcp (sp dp : U16) (seq ack : U32) (flags : Byte) (w : U16) (src dst : U32) (P : Buffer) :
    memWrite16 (buildTcp sp dp seq ack flags w src dst P) 16 0 = packTcp (bareTcp sp dp seq ack flags w) := by
  rw [buildTcp, memWrite16_packTcp, memWrite16_packTcp]
  rfl

/-- Settles O16: the built header reads back as the bare header with the checksum filled in. -/
theorem builtIpv4HeaderHasItsFields : Obligations.BuiltIpv4HeaderHasItsFields := by
  unfold Obligations.BuiltIpv4HeaderHasItsFields
  intro n ipId src dst s hn
  refine ⟨buildIpv4 n ipId src dst, internetChecksum (packIpv4 (bareIpv4 n ipId src dst)),
    exec_encIpv4 ipId src dst s hn, buildIpv4_length n ipId src dst, unpackIpv4_buildIpv4 n ipId src dst, ?_⟩
  rw [memWrite16_zero_buildIpv4]

/-- Settles O17: the built header reads back as the bare header with the checksum filled in. -/
theorem builtTcpHeaderHasItsFields : Obligations.BuiltTcpHeaderHasItsFields := by
  unfold Obligations.BuiltTcpHeaderHasItsFields
  intro sp dp w seq ack src dst flags P s hP
  refine ⟨buildTcp sp dp seq ack flags w src dst P, tcpChecksum (packTcp (bareTcp sp dp seq ack flags w)) src dst P,
    exec_encTcp sp dp seq ack flags w src dst s hP, buildTcp_length sp dp seq ack flags w src dst P,
    unpackTcp_buildTcp sp dp seq ack flags w src dst P, ?_⟩
  rw [memWrite16_zero_buildTcp]

end Sys2Proof.Proofs
end

section
/-! DEC.DGRAM by its own length fields (spec 41_codec.md R150, R151). -/

namespace Sys2Proof.Proofs

open Sys2Proof.Machine

/-- DEC.DGRAM answers on every buffer (R150). -/
theorem exec_decDgram (B : Buffer) (s : State) :
    exec (.decDgram B) s = .next (setResult (.dgram (decodeDatagram B)) s) := rfl

theorem slice_add (B : Buffer) (i k : Nat) : slice B i (i + k) = (B.drop i).take k := by
  rw [slice, Nat.add_sub_cancel_left]

theorem byteAt_slice_add (B : Buffer) {i k j : Nat} (h : j < k) : byteAt (slice B i (i + k)) j = byteAt B (i + j) := by
  rw [slice_add]
  simp [byteAt, List.getElem?_take_of_lt h]

/-- R88: the IPv4 header length field of a buffer. -/
theorem ihl_toNat (B : Buffer) : (unpackIpv4 (slice B 0 20)).ihl.toNat = (byteAt B 0 &&& 15).toNat := by
  have first : byteAt (slice B 0 20) 0 = byteAt B 0 := byteAt_slice_add B (i := 0) (k := 20) (by decide)
  rw [unpackIpv4, first, loNibble, BitVec.toNat_ofNat, toNat_and_fifteen]

/-- R88: the data offset field of the TCP header behind the IPv4 header. -/
theorem doff_toNat (ip : IPv4Header) (B : Buffer) :
    (tcpOf ip B).doff.toNat = (byteAt B (tcpOffset ip + 12) >>> 4).toNat := by
  have := (byteAt B (tcpOffset ip + 12)).isLt
  rw [tcpOf, unpackTcp, byteAt_slice_add B (by decide), hiNibble, BitVec.toNat_ofNat, toNat_shiftRight_four]
  omega

/-- Checks (b) and (c) of R150, as they fail. -/
theorem not_tcpInBounds_iff (ip : IPv4Header) (B : Buffer) :
    (!tcpInBounds ip B) = true ↔ ip.ihl.toNat < 5 ∨ B.length < tcpOffset ip + 20 := by
  simp [tcpInBounds]

/-- R151: the payload runs to the end of the buffer; it is empty when it would start behind the end. -/
theorem payloadOf_eq_drop (ip : IPv4Header) (tcp : TCPHeader) (B : Buffer) :
    payloadOf ip tcp B = B.drop (payloadOffset ip tcp) := by
  rw [payloadOf, slice_add, ← List.length_drop, List.take_length]

/-- Settles O19: the checks of the stated disjunction are those of R150 in their order, since `ihl` and `doff` are the
fields the decoder reads. -/
theorem datagramDecodesByItsLengths : Obligations.DatagramDecodesByItsLengths := by
  unfold Obligations.DatagramDecodesByItsLengths
  intro B s ihl doff
  have hip : unpackIpv4 (B.take 20) = unpackIpv4 (slice B 0 20) := rfl
  have hihl : (unpackIpv4 (slice B 0 20)).ihl.toNat = ihl := ihl_toNat B
  have hoff : tcpOffset (unpackIpv4 (slice B 0 20)) = 4 * ihl := congrArg (4 * ·) hihl
  have hdoff : (tcpOf (unpackIpv4 (slice B 0 20)) B).doff.toNat = doff := by rw [doff_toNat, hoff]
  rw [exec_decDgram, decodeDatagram]
  simp only [not_tcpInBounds_iff, payloadOf_eq_drop, payloadOffset, hip, hihl, hoff, hdoff, ite_or]
  rw [tcpOf, hoff, slice_add]
  rfl

end Sys2Proof.Proofs
end

section
/-! HANDLE as a function of the segment (spec 42_state_machine.md R170, R172, R176 to R178): what it ignores, what it
reads, and the longest thing it does. -/

namespace Sys2Proof.Proofs

open Sys2Proof.Machine Sys2Proof.Laws

/-- Settles O32: where its condition holds, RX.LASTACK.ACK runs R176, which writes the state alone. -/
theorem lastAckCloses : Obligations.LastAckCloses := by
  unfold Obligations.LastAckCloses
  intro tcp P s hs hf
  rw [exec_rxLastackAck P hs ((hasAck_iff tcp).mpr hf)]
  rfl

/-! What HANDLE ignores (R177). -/

/-- The eight states of R177 are none of the three that take a segment. -/
theorem ne_synSent_established_lastAck_of_mem {st : TcpState}
    (h : st ∈ [TcpState.closed, .listen, .synReceived, .finWait1, .finWait2, .closeWait, .closing, .timeWait]) :
    st ≠ .synSent ∧ st ≠ .established ∧ st ≠ .lastAck := by
  revert st
  decide

/-- Settles O33: in each case listed no receive class acts, and then HANDLE runs R177. -/
theorem everythingElseIsIgnored : Obligations.EverythingElseIsIgnored := by
  unfold Obligations.EverythingElseIsIgnored
  intro tcp P s h
  have none_acts : actingClasses s.ccb.state tcp P = [] := by
    rw [actingClasses_eq_nil_iff, hasSynAck_iff, hasFin_iff, hasAck_iff]
    obtain hst | ⟨hst, hf⟩ | ⟨hst, hP, hf⟩ | ⟨hst, hf⟩ := h
    · obtain ⟨hsyn, hest, hlast⟩ := ne_synSent_established_lastAck_of_mem hst
      exact ⟨fun c => hsyn c.1, fun c => hest c.1, fun c => hlast c.1⟩
    · simpa [hst, or_iff_not_imp_left] using hf
    · simpa [hst, hP] using hf
    · simpa [hst] using hf
  rw [exec_handle, handleSegment_ignored none_acts]
  rfl

/-! What HANDLE reads (R170, R172). -/

/-- Flag bytes that agree under a mask agree on every flag the mask covers. -/
theorem flagSet_congr {f g cover mask : Byte} (hcover : cover &&& mask = mask) (h : f &&& cover = g &&& cover) :
    flagSet f mask = flagSet g mask := by
  unfold flagSet
  rw [← hcover, ← BitVec.and_assoc, ← BitVec.and_assoc, h]

section
variable {a b : TCPHeader}

theorem ruleSynAck_congr (s : State) (hseq : a.seq = b.seq) (hack : a.ack = b.ack) :
    ruleSynAck a s = ruleSynAck b s := by
  unfold ruleSynAck acceptSynAck
  rw [hseq, hack]

theorem handleEstablished_congr (P : Buffer) (s : State) (hfin : hasFin a = hasFin b) :
    handleEstablished a P s = handleEstablished b P s := by
  unfold handleEstablished
  rw [hfin]

theorem handleSegment_congr (P : Buffer) (s : State) (hseq : a.seq = b.seq) (hack : a.ack = b.ack)
    (hbits : a.flags &&& 0x13 = b.flags &&& 0x13) : handleSegment a P s = handleSegment b P s := by
  have syn : flagSet a.flags synMask = flagSet b.flags synMask := flagSet_congr (by decide) hbits
  have ack : flagSet a.flags ackMask = flagSet b.flags ackMask := flagSet_congr (by decide) hbits
  have fin : hasFin a = hasFin b := flagSet_congr (by decide) hbits
  unfold handleSegment hasSynAck hasAck
  rw [syn, ack, ruleSynAck_congr s hseq hack, handleEstablished_congr P s fin]

end

/-- Settles O38: each rule reads no more of the header than R170 names. -/
theorem handleReadsFourFields : Obligations.HandleReadsFourFields := by
  unfold Obligations.HandleReadsFourFields
  intro a b P s hseq hack hbits
  rw [exec_handle, exec_handle, handleSegment_congr P s hseq hack hbits]

/-! The data rule and the FIN rule with every send accepted (R174, R175, R204), the one after the other (R178). A state
is written as its draws with a block and outputs in place, the only fields that the rules write. -/

/-- The answer to a transmission does not depend on the block and the outputs. -/
theorem drawTransmit_of_ccb_outputs (c : Ccb) (out : List OutEvent) (s : State) :
    drawTransmit { s with ccb := c, outputs := out } =
      ((drawTransmit s).1, { (drawTransmit s).2 with ccb := c, outputs := out }) := by
  cases h : s.transmitDraws <;> simp [drawTransmit, h]

/-- The block with both receive counters advanced by `n`. -/
def received (n : Nat) (c : Ccb) : Ccb :=
  { c with recvSeq := c.recvSeq + BitVec.ofNat 32 n, sendAck := c.sendAck + BitVec.ofNat 32 n }

theorem advanceReceive_eq_received (n : Nat) (s : State) :
    advanceReceive n s = { s with ccb := received n s.ccb } := by
  rw [advanceReceive, seqAdd_eq, seqAdd_eq, received]

/-- A pure ACK takes no sequence number (R204). -/
theorem seqAdd_ackSpace (a : U32) : seqAdd a (sequenceSpace ackFlags 0) = a :=
  (seqAdd_eq a 0).trans (BitVec.add_zero a)

/-- A FIN+ACK takes one sequence number (R204). -/
theorem seqAdd_finAckSpace (a : U32) : seqAdd a (sequenceSpace finAckFlags 0) = a + 1 := seqAdd_eq a 1

section
variable (c : Ccb) (out : List OutEvent) {s : State} (h : (drawTransmit s).1.txOk = true)
include h

/-- R204 from a state written that way. -/
theorem sendSegment_sent_of_ccb_outputs (flags : Byte) (P : Buffer) :
    sendSegment flags P { s with ccb := c, outputs := out } = (true, { (drawTransmit s).2 with
      ccb := { c with
        sendSeq := seqAdd c.sendSeq (sequenceSpace flags P.length), lastSent := (drawTransmit s).1.now }
      outputs := out ++ [.tx (datagramOf c (drawTransmit s).1.ipId flags P)] }) := by
  rw [sendSegment_sent _ _ _ (by rwa [drawTransmit_of_ccb_outputs]), drawTransmit_of_ccb_outputs]
  rfl

theorem sendSegment_ack_sent :
    sendSegment ackFlags [] { s with ccb := c, outputs := out } = (true, { (drawTransmit s).2 with
      ccb := { c with lastSent := (drawTransmit s).1.now }
      outputs := out ++ [.tx (datagramOf c (drawTransmit s).1.ipId ackFlags [])] }) := by
  rw [sendSegment_sent_of_ccb_outputs c out h, List.length_nil, seqAdd_ackSpace]

theorem sendSegment_finAck_sent :
    sendSegment finAckFlags [] { s with ccb := c, outputs := out } = (true, { (drawTransmit s).2 with
      ccb := { c with sendSeq := c.sendSeq + 1, lastSent := (drawTransmit s).1.now }
      outputs := out ++ [.tx (datagramOf c (drawTransmit s).1.ipId finAckFlags [])] }) := by
  rw [sendSegment_sent_of_ccb_outputs c out h, List.length_nil, seqAdd_finAckSpace]

/-- R174 with its ACK accepted. -/
theorem ruleData_sent (P : Buffer) :
    ruleData P { s with ccb := c, outputs := out } = (.handled, { (drawTransmit s).2 with
      ccb := { received P.length c with lastSent := (drawTransmit s).1.now }
      outputs := out ++
        [.tx (datagramOf (received P.length c) (drawTransmit s).1.ipId ackFlags []), .sink P] }) := by
  rw [ruleData, advanceReceive_eq_received, sendSegment_ack_sent (received P.length c) out h]
  simp [emit]

/-- R175 with both sends accepted. -/
theorem ruleFin_sent (h' : (drawTransmit (drawTransmit s).2).1.txOk = true) :
    ruleFin { s with ccb := c, outputs := out } = (.handled, { (drawTransmit (drawTransmit s).2).2 with
      ccb := { received 1 c with
        state := .lastAck, sendSeq := c.sendSeq + 1, lastSent := (drawTransmit (drawTransmit s).2).1.now }
      outputs := out ++ [
        .tx (datagramOf { received 1 c with state := .closeWait } (drawTransmit s).1.ipId ackFlags []),
        .tx (datagramOf { received 1 c with state := .closeWait } (drawTransmit (drawTransmit s).2).1.ipId
          finAckFlags [])] }) := by
  rw [ruleFin, advanceReceive_eq_received, setTcpState]
  rw [sendSegment_ack_sent { received 1 c with state := .closeWait } out h]
  rw [if_pos rfl, sendSegment_finAck_sent _ _ h', if_pos rfl, List.append_assoc]
  rfl

end

/-- Settles O36: the data rule, then the FIN rule from the block it leaves. -/
theorem dataAndFinInOneSegment : Obligations.DataAndFinInOneSegment := by
  unfold Obligations.DataAndFinInOneSegment
  intro tcp P s hs hP hf d s' e s'' f n c c' hd he hfin
  have data := ruleData_sent s.ccb s.outputs hd P
  obtain ⟨hfail, _⟩ | ⟨_, hrun⟩ := handleEstablished_dataFin s hP ((hasFin_iff tcp).mpr hf)
  · rw [data] at hfail
    cases hfail
  · rw [exec_handle, handleSegment_established tcp P hs, hrun, data, ruleFin_sent _ _ he hfin, List.append_assoc]
    rfl

end Sys2Proof.Proofs
end

section
/-! The filter stages, the dispatcher's receive path and the two other RX events (spec 44_dispatch_filter.md R221 to
R232). -/

namespace Sys2Proof.Proofs

open Sys2Proof.Machine Sys2Proof.Laws

/-! The filter stages, with the address and port tests as R224 and R226 write them. -/

theorem filterIp_eq (ip : IPv4Header) (c : Ccb) :
    filterIp ip c = if ip.protocol ≠ 6 then some .dropNotTcp
      else if ip.src = c.remoteAddr ∧ ip.dst = c.localAddr then none else some .dropAddr := by
  simp only [filterIp, ← not_and_or, ite_not, ne_eq]

theorem filterPort_eq (tcp : TCPHeader) (c : Ccb) :
    filterPort tcp c = if tcp.srcPort = c.remotePort ∧ tcp.dstPort = c.localPort then none else some .dropPort := by
  simp only [filterPort, ← not_and_or, ite_not, ne_eq]

theorem exec_filterIp (ip : IPv4Header) (s : State) :
    exec (.filterIp ip) s = .next (setResult (.filter (filterIp ip s.ccb)) s) := rfl

theorem exec_filterPort (tcp : TCPHeader) (s : State) :
    exec (.filterPort tcp) s = .next (setResult (.filter (filterPort tcp s.ccb)) s) := rfl

/-- Settles O20: each stage leaves its answer as the result. -/
theorem filterStagesAnswer : Obligations.FilterStagesAnswer := by
  unfold Obligations.FilterStagesAnswer
  refine ⟨fun ip s => ?_, fun tcp s => ?_⟩
  · rw [exec_filterIp, filterIp_eq]
    rfl
  · rw [exec_filterPort, filterPort_eq]
    rfl

/-! The checks before HANDLE (R221, R274). -/

/-- The verdict of the first check of R221 that fails; `none` when the segment goes on to HANDLE. -/
def dropVerdict (c : Ccb) (B : Buffer) : Option Verdict :=
  let ip := unpackIpv4 (B.take 20)
  let tcp := unpackTcp ((B.drop (4 * ip.ihl.toNat)).take 20)
  if B.length < 40 then some .dropMalformed
  else if ip.protocol ≠ 6 then some .dropNotTcp
  else if ip.src ≠ c.remoteAddr ∨ ip.dst ≠ c.localAddr then some .dropAddr
  else if ip.ihl.toNat < 5 ∨ B.length < 4 * ip.ihl.toNat + 20 then some .dropMalformed
  else if tcp.srcPort ≠ c.remotePort ∨ tcp.dstPort ≠ c.localPort then some .dropPort
  else if tcp.doff.toNat < 5 then some .dropMalformed
  else none

theorem tcpOf_eq (ip : IPv4Header) (B : Buffer) : tcpOf ip B = unpackTcp ((B.drop (4 * ip.ihl.toNat)).take 20) := by
  rw [tcpOf, slice_add, tcpOffset]

theorem ite_tcpInBounds {α : Type} (ip : IPv4Header) (B : Buffer) (inside outside : α) :
    (if tcpInBounds ip B then inside else outside) =
      if ip.ihl.toNat < 5 ∨ B.length < 4 * ip.ihl.toNat + 20 then outside else inside := by
  have h := not_tcpInBounds_iff ip B
  rw [tcpOffset] at h
  simp only [← h, Bool.not_eq_true', ← Bool.not_eq_true, ite_not]

/-- The port stage, the data offset check and the payload, with the TCP header and the clamp written out. -/
theorem receiveTcp_eq (c : Ccb) (ip : IPv4Header) (B : Buffer) :
    receiveTcp c ip B =
      let tcp := unpackTcp ((B.drop (4 * ip.ihl.toNat)).take 20)
      if tcp.srcPort ≠ c.remotePort ∨ tcp.dstPort ≠ c.localPort then .error .dropPort
      else if tcp.doff.toNat < 5 then .error .dropMalformed
      else .ok (tcp, B.drop (4 * ip.ihl.toNat + 4 * tcp.doff.toNat)) := by
  rw [receiveTcp, payloadOf_eq_drop, payloadOffset, tcpOf_eq, tcpOffset, filterPort]
  dsimp only
  split_ifs <;> rfl

/-- The front end of RX_DATAGRAM drops with that verdict, or hands on the TCP header and the clamped payload. -/
theorem receive_eq (c : Ccb) (B : Buffer) :
    receive c B =
      let h := 4 * (unpackIpv4 (B.take 20)).ihl.toNat
      let tcp := unpackTcp ((B.drop h).take 20)
      (dropVerdict c B).elim (.ok (tcp, B.drop (h + 4 * tcp.doff.toNat))) .error := by
  have hip : slice B 0 20 = B.take 20 := rfl
  rw [receive, dropVerdict, hip]
  simp only [filterIp, ite_tcpInBounds, receiveTcp_eq]
  split_ifs <;> rfl

/-! HANDLE and what follows it (R221, R229). -/

@[simp] theorem ruleData_result (P : Buffer) (s : State) : (ruleData P s).2.result = s.result := by
  unfold ruleData
  dsimp only
  split <;> simp

@[simp] theorem ruleFin_result (s : State) : (ruleFin s).2.result = s.result := by
  unfold ruleFin
  dsimp only
  split
  · split <;> simp
  · simp

/-- HANDLE inside the dispatcher leaves the last unit's result alone. -/
theorem handleSegment_result (tcp : TCPHeader) (P : Buffer) (s : State) :
    (handleSegment tcp P s).2.result = s.result := by
  obtain ⟨_, _, e⟩ | ⟨_, e⟩ | ⟨_, _, e⟩ | e := handleSegment_cases tcp P s
  · rw [e, ruleSynAck, sendSegment_result]
    rfl
  · rw [e]
    obtain ⟨_, _, e⟩ | ⟨_, _, _, e⟩ | ⟨_, _, _, e⟩ | ⟨_, _, e⟩ | ⟨_, _, e⟩ := handleEstablished_cases tcp P s
    · rw [e, ruleData_result]
    · rw [e, ruleFin_result, ruleData_result]
    · rw [e, ruleData_result]
    · rw [e, ruleFin_result]
    · rw [e, ruleIgnore]
  · rw [e]
    rfl
  · rw [e]
    rfl

theorem isTerminal_iff (st : TcpState) : isTerminal st = true ↔ st = .closed ∨ st = .timeWait := by
  cases st <;> decide

theorem endLoopIfTerminal_eq (s : State) :
    endLoopIfTerminal s =
      { s with runEn := if s.ccb.state = .closed ∨ s.ccb.state = .timeWait then false else s.runEn } := by
  rw [endLoopIfTerminal]
  simp only [isTerminal_iff]
  split_ifs <;> rfl

/-- R229: a failed send or a terminal state clears `run_en`; the outcome is the verdict. -/
theorem finishSegment_eq (ran : HandleOutcome × State) :
    finishSegment ran = { ran.2 with
      runEn := if ran.1 = .abortSendFailed ∨ ran.2.ccb.state = .closed ∨ ran.2.ccb.state = .timeWait then false
        else ran.2.runEn
      outputs := ran.2.outputs ++ [.verdict (verdictOf ran.1)] } := by
  rw [finishSegment, endLoopIfTerminal_eq]
  by_cases abort : ran.1 = .abortSendFailed
  · simp [abort, giveVerdict, emit, setRunEn]
  · simp [abort, giveVerdict, emit]

/-! The RX events while `run_en` = 1. -/

section
variable {s : State} (hrun : s.runEn = true)
include hrun

theorem exec_rxDatagram (B : Buffer) : exec (.rxDatagram B) s = .next (receiveDatagram B s) := if_pos hrun

theorem exec_rxDatagram_of_error {B : Buffer} {v : Verdict} (h : receive s.ccb B = .error v) :
    exec (.rxDatagram B) s = .next (giveVerdict v s) := by
  rw [exec_rxDatagram hrun, receiveDatagram, h]

theorem exec_rxDatagram_of_ok {B P : Buffer} {tcp : TCPHeader} (h : receive s.ccb B = .ok (tcp, P)) :
    exec (.rxDatagram B) s = .next (finishSegment (handleSegment tcp P s)) := by
  rw [exec_rxDatagram hrun, receiveDatagram, h]

theorem exec_rxTimeout : exec .rxTimeout s = .next (giveVerdict .timeout s) := if_pos hrun

theorem exec_rxError : exec .rxError s = .next (giveVerdict .recvFailed (setRunEn false s)) := if_pos hrun

end

/-- Settles O23: the front end drops or hands on as `receive_eq` says. HANDLE in the dispatcher is HANDLE by itself but
for the result, which the dispatcher does not leave. -/
theorem rxDatagramResult : Obligations.RxDatagramResult := by
  unfold Obligations.RxDatagramResult
  intro B s hrun ip h tcp dropped
  have front : receive s.ccb B = dropped.elim (.ok (tcp, B.drop (h + 4 * tcp.doff.toNat))) .error := receive_eq s.ccb B
  refine ⟨fun v hv => ?_, fun hnone => ?_⟩
  · rw [hv] at front
    exact exec_rxDatagram_of_error hrun front
  · rw [hnone] at front
    refine ⟨_, _, exec_handle _ _ s, rfl, ?_⟩
    rw [exec_rxDatagram_of_ok hrun front, finishSegment_eq, handleSegment_runEn, ← handleSegment_result]
    rfl

/-- Settles O24: each event is its own arm of the dispatcher, taken because `run_en` is 1. -/
theorem rxTimeoutAndErrorResult : Obligations.RxTimeoutAndErrorResult := by
  unfold Obligations.RxTimeoutAndErrorResult
  intro s hrun
  exact ⟨exec_rxTimeout hrun, exec_rxError hrun⟩

end Sys2Proof.Proofs
end

section
/-! The host commands (spec 45_host_commands.md R251 to R256). Each command is one choice by the protocol state, and of
what it runs, the sends accepted and refused each have an equation. -/

namespace Sys2Proof.Proofs

open Sys2Proof.Machine Sys2Proof.Laws

/-! Answers, as record updates. -/

theorem raiseStatus_eq (kind : Status) (s : State) :
    raiseStatus kind s = { s with outputs := s.outputs ++ [.response kind none] } := rfl

/-- A drawn transmission answered with an error: the draw apart, only the response is new (R270). -/
theorem raiseStatus_drawTransmit (kind : Status) (s : State) :
    raiseStatus kind (drawTransmit s).2 =
      { (drawTransmit s).2 with outputs := s.outputs ++ [.response kind none] } := by
  rw [raiseStatus_eq, drawTransmit_outputs]

/-! CONNECT (R251). -/

/-- A SYN takes one sequence number (R204). -/
theorem seqAdd_synSpace (a : U32) : seqAdd a (sequenceSpace synFlags 0) = a + 1 := seqAdd_eq a 1

/-- The end of CONNECT with its SYN accepted. -/
theorem sendSyn_sent (c : Ccb) {s : State} (h : (drawTransmit s).1.txOk = true) :
    sendSyn (setCcb c s) = { (drawTransmit s).2 with
      ccb := { c with sendSeq := c.sendSeq + 1, lastSent := (drawTransmit s).1.now }
      outputs := s.outputs ++ [.tx (datagramOf c (drawTransmit s).1.ipId synFlags []), .response .ok none] } := by
  have syn := sendSegment_sent_of_ccb_outputs c s.outputs h synFlags []
  rw [List.length_nil, seqAdd_synSpace] at syn
  rw [sendSyn, setCcb, syn, if_pos rfl, respondOk, emit, List.append_assoc]
  rfl

/-- The end of CONNECT with its SYN refused: back to CLOSED (D23). -/
theorem sendSyn_failed (c : Ccb) {s : State} (h : (drawTransmit s).1.txOk = false) :
    sendSyn (setCcb c s) = { (drawTransmit s).2 with
      ccb := { c with state := .closed }, outputs := s.outputs ++ [.response .sendFailed none] } := by
  have syn := sendSegment_failed synFlags [] (setCcb c s) (by rwa [drawTransmit_of_setCcb])
  rw [sendSyn, syn, drawTransmit_of_setCcb, ← drawTransmit_outputs s]
  rfl

theorem openConnection_noTransport {addr : U32} {port : U16} {s : State}
    (hx : (drawConnect s).1.transportOk = false) :
    openConnection addr port s = raiseStatus .transportUnavailable (drawConnect s).2 :=
  if_neg (Bool.eq_false_iff.mp hx)

theorem openConnection_transport {addr : U32} {port : U16} {s : State} (hx : (drawConnect s).1.transportOk = true) :
    openConnection addr port s = sendSyn (setCcb (openCcb (drawConnect s).1 addr port) (drawConnect s).2) :=
  if_pos hx

theorem exec_connect_of_ne_closed {addr : U32} {port : U16} {s : State} (hs : s.ccb.state ≠ .closed) :
    exec (.connect addr port) s = .next (raiseStatus .busy s) :=
  congrArg _ (if_neg hs)

theorem exec_connect_of_closed {addr : U32} {port : U16} {s : State} (hs : s.ccb.state = .closed) :
    exec (.connect addr port) s = .next (openConnection addr port s) :=
  congrArg _ (if_pos hs)

/-- Settles O39: the state, then the transport, then the SYN's own outcome. -/
theorem connectResult : Obligations.ConnectResult := by
  unfold Obligations.ConnectResult
  intro addr port s x s₁ c d s₂
  refine ⟨fun hs => ?_, fun hs hx => ?_, fun hs hx hd => ?_, fun hs hx hd => ?_⟩
  · rw [exec_connect_of_ne_closed hs, raiseStatus_eq]
  · rw [exec_connect_of_closed hs, openConnection_noTransport hx, raiseStatus_eq, drawConnect_outputs]
  · rw [exec_connect_of_closed hs, openConnection_transport hx, sendSyn_sent _ hd, drawConnect_outputs]
    rfl
  · rw [exec_connect_of_closed hs, openConnection_transport hx, sendSyn_failed _ hd, drawConnect_outputs]
    rfl

/-! SEND (R252). -/

/-- PSH and ACK take no sequence number: a data segment advances `send_seq` by its length (R204). -/
theorem seqAdd_pshAckSpace (a : U32) (n : Nat) : seqAdd a (sequenceSpace pshAckFlags n) = a + BitVec.ofNat 32 n :=
  seqAdd_eq a n

theorem sendData_tooLong {data : Buffer} (s : State) (h : Config.maxPayload < data.length) :
    sendData data s = raiseStatus .payloadTooLong s :=
  if_neg (Nat.not_le.mpr h)

section
variable {data : Buffer} {s : State} (hlen : data.length ≤ Config.maxPayload)
include hlen

theorem sendData_failed (h : (drawTransmit s).1.txOk = false) :
    sendData data s = raiseStatus .sendFailed (drawTransmit s).2 := by
  rw [sendData, if_pos hlen, sendSegment_failed _ _ _ h]
  rfl

theorem sendData_sent (h : (drawTransmit s).1.txOk = true) :
    sendData data s = { (drawTransmit s).2 with
      ccb := { s.ccb with
        sendSeq := s.ccb.sendSeq + BitVec.ofNat 32 data.length, lastSent := (drawTransmit s).1.now }
      outputs := s.outputs ++ [.tx (datagramOf s.ccb (drawTransmit s).1.ipId pshAckFlags data),
        .response .ok (some data.length)] } := by
  have sent := sendSegment_sent_of_ccb_outputs s.ccb s.outputs h pshAckFlags data
  rw [seqAdd_pshAckSpace] at sent
  rw [sendData, if_pos hlen, sent, if_pos rfl, respondCount, emit, List.append_assoc]
  rfl

end

theorem exec_send_of_ne_established (data : Buffer) {s : State} (hs : s.ccb.state ≠ .established) :
    exec (.send data) s = .next (raiseStatus .notConnected s) :=
  congrArg _ (if_neg hs)

theorem exec_send_of_established (data : Buffer) {s : State} (hs : s.ccb.state = .established) :
    exec (.send data) s = .next (sendData data s) :=
  congrArg _ (if_pos hs)

/-- Settles O41: the state, then the length, then the transport. -/
theorem sendResult : Obligations.SendResult := by
  unfold Obligations.SendResult
  intro data s d s'
  refine ⟨fun hs => ?_, fun hs hlen => ?_, fun hs hlen hd => ?_, fun hs hlen hd => ?_⟩
  · rw [exec_send_of_ne_established data hs, raiseStatus_eq]
  · rw [exec_send_of_established data hs, sendData_tooLong s hlen, raiseStatus_eq]
  · rw [exec_send_of_established data hs, sendData_failed hlen hd, raiseStatus_drawTransmit]
  · rw [exec_send_of_established data hs, sendData_sent hlen hd]
    rfl

/-! CLOSE (R253, R254). -/

theorem closeActive_failed {s : State} (h : (drawTransmit s).1.txOk = false) :
    closeActive s = raiseStatus .sendFailed (drawTransmit s).2 := by
  rw [closeActive, sendSegment_failed _ _ _ h]
  rfl

theorem closeActive_sent {s : State} (h : (drawTransmit s).1.txOk = true) :
    closeActive s = { (drawTransmit s).2 with
      ccb := { s.ccb with
        state := .finWait1, sendSeq := s.ccb.sendSeq + 1, lastSent := (drawTransmit s).1.now }
      runEn := true
      outputs := s.outputs ++ [.tx (datagramOf s.ccb (drawTransmit s).1.ipId finAckFlags []),
        .response .ok none] } := by
  have sent := sendSegment_finAck_sent s.ccb s.outputs h
  rw [closeActive, sent, if_pos rfl, respondOk, emit, setRunEn, setTcpState, List.append_assoc]
  rfl

theorem exec_closeEstablished {s : State} (hs : s.ccb.state = .established) :
    exec .closeEstablished s = .next (closeActive s) :=
  congrArg _ (if_pos hs)

/-- Settles O42: the two outcomes of the FIN+ACK. -/
theorem closeActiveResult : Obligations.CloseActiveResult := by
  unfold Obligations.CloseActiveResult
  intro s hs d s'
  rw [exec_closeEstablished hs]
  refine ⟨fun hd => ?_, fun hd => ?_⟩
  · rw [closeActive_sent hd]
    rfl
  · rw [closeActive_failed hd, raiseStatus_drawTransmit]

theorem exec_closeRelease {s : State} (hs : s.ccb.state ≠ .established) :
    exec .closeRelease s = .next (closeByRelease s) :=
  congrArg _ (if_pos hs)

theorem closeByRelease_eq (s : State) :
    closeByRelease s = { s with
      ccb := { s.ccb with state := .closed }, runEn := false, outputs := s.outputs ++ [.response .ok none] } := rfl

/-- Settles O43: outside ESTABLISHED the row is the release, then the response. -/
theorem closeReleaseResult : Obligations.CloseReleaseResult := by
  unfold Obligations.CloseReleaseResult
  intro s hs
  rw [exec_closeRelease hs, closeByRelease_eq]

/-! RUN (R255). -/

theorem exec_run (s : State) :
    exec .run s = .next (respondOk (if isTerminal s.ccb.state then s else setRunEn true s)) := rfl

/-- Settles O45: the terminal states are CLOSED and TIME_WAIT. -/
theorem runResult : Obligations.RunResult := by
  unfold Obligations.RunResult
  intro s
  refine ⟨fun hclosed hwait => ?_, fun h => ?_⟩
  · have live : ¬ isTerminal s.ccb.state = true := by
      rw [isTerminal_iff, not_or]
      exact ⟨hclosed, hwait⟩
    rw [exec_run, if_neg live]
    rfl
  · rw [exec_run, if_pos ((isTerminal_iff _).mpr h)]
    rfl

/-! The reserved opcodes (R101, R256). -/

/-- A word whose opcode is none of the four of R100 selects the reserved row, whatever stands beside the opcode. -/
theorem decodeCommand_of_not_mem (st : TcpState) {word : CommandWord}
    (h : word.opcode ∉ [0x01, 0x02, 0x03, (0x04 : Byte)]) :
    decodeCommand st word = .cmdReserved word.opcode := by
  simp only [List.mem_cons, List.not_mem_nil, or_false, not_or] at h
  obtain ⟨notConnect, notSend, notClose, notRun⟩ := h
  rw [decodeCommand, if_neg notConnect, if_neg notSend, if_neg notClose, if_neg notRun]

theorem exec_cmdReserved (opcode : Byte) (s : State) :
    exec (.cmdReserved opcode) s = .next (raiseStatus .badCommand s) := rfl

/-- Settles O46: every test of the command decoder fails, and the reserved row only answers. -/
theorem reservedOpcodeResult : Obligations.ReservedOpcodeResult := by
  unfold Obligations.ReservedOpcodeResult
  intro word st h
  exact ⟨decodeCommand_of_not_mem st h, fun s => by rw [exec_cmdReserved, raiseStatus_eq]⟩

end Sys2Proof.Proofs
end

section
/-! OCSUM as a number, and what stored checksums and changed bytes do to it (spec 40_checksum.md R120, R124, R126,
R127; 41_codec.md R143, R147). -/

namespace Sys2Proof.Proofs

open Sys2Proof.Machine Sys2Proof.Laws Sys2Proof.Safety

theorem exec_ocsum (B : Buffer) (s : State) : exec (.ocsum B) s = .next (setResult (.word (onesSum B)) s) := rfl

theorem exec_csumok (B : Buffer) (s : State) : exec (.csumok B) s = .next (setResult (.bit (checksumOk B)) s) := rfl

/-! The end-around adder (R126). -/

/-- What a true sum folds to: its representative in 1..0xFFFF modulo 0xFFFF, and 0 for 0 (R126). -/
def folded (n : Nat) : Nat := if n = 0 then 0 else (n - 1) % 65535 + 1

theorem folded_of_le {n : Nat} (h : n ≤ 65535) : folded n = n := by
  unfold folded
  split <;> omega

/-- One addition with the carry-out added back in folds the sum. -/
theorem folded_endAround {a b : Nat} (c : Nat) (ha : a ≤ 65535) (hb : b ≤ 65535) :
    adderSum.endAround a b ≤ 65535 ∧ folded (adderSum.endAround a b + c) = folded (a + b + c) := by
  unfold adderSum.endAround
  split
  · unfold folded
    split <;> split <;> omega
  · exact ⟨by omega, rfl⟩

/-- The adder's sum is the true sum folded. -/
theorem adderSum_eq_folded (acc : Nat) (B : Buffer) (h : acc ≤ 65535) : adderSum acc B = folded (acc + sumWords B) := by
  induction acc, B using adderSum.induct with
  | case1 acc => rw [adderSum, sumWords, Nat.add_zero, folded_of_le h]
  | case2 acc b =>
    have := b.isLt
    obtain ⟨bound, fold⟩ := folded_endAround 0 h (b := b.toNat * 256) (by omega)
    rw [adderSum, sumWords, ← folded_of_le bound]
    exact fold
  | case3 acc a b rest ih =>
    have := a.isLt
    have := b.isLt
    obtain ⟨bound, fold⟩ := folded_endAround (sumWords rest) h (b := a.toNat * 256 + b.toNat) (by omega)
    rw [adderSum, sumWords, ih bound, fold, Nat.add_assoc]

/-- Settles O7: both are the true sum folded. -/
theorem ocsumIsTheEndAroundAdder : Obligations.OcsumIsTheEndAroundAdder := by
  unfold Obligations.OcsumIsTheEndAroundAdder
  intro B s
  have same : onesSum B = BitVec.ofNat 16 (adderSum 0 B) := by
    rw [adderSum_eq_folded 0 B (Nat.zero_le _), Nat.zero_add, folded, ← onesSum_toNat, BitVec.ofNat_toNat,
      BitVec.setWidth_eq]
  rw [exec_ocsum, same]
  rfl

/-! The zero sum. -/

/-- A sum of words vanishes only where every byte does. -/
theorem sumWords_eq_zero_iff (B : Buffer) : sumWords B = 0 ↔ ∀ b ∈ B, b = 0 := by
  have zero : ∀ b : Byte, b = 0 ↔ b.toNat = 0 := fun b => (BitVec.toNat_inj (y := 0)).symm
  induction B using sumWords.induct with
  | case1 => simp [sumWords]
  | case2 b =>
    rw [sumWords, List.forall_mem_singleton, zero]
    omega
  | case3 a b rest ih =>
    rw [sumWords, List.forall_mem_cons, List.forall_mem_cons, zero, zero]
    simp only [← ih]
    omega

theorem onesSum_eq_zero_iff (B : Buffer) : onesSum B = 0 ↔ sumWords B = 0 := by
  rw [← BitVec.toNat_inj, onesSum_toNat]
  split <;> simp [*]

/-- Settles O8: the representative is congruent to the true sum, and 0 only where the sum is. -/
theorem ocsumIsTheSumModuloAllOnes : Obligations.OcsumIsTheSumModuloAllOnes := by
  unfold Obligations.OcsumIsTheSumModuloAllOnes
  intro B s
  exact ⟨onesSum B, exec_ocsum B s, onesSum_mod B, (onesSum_eq_zero_iff B).trans (sumWords_eq_zero_iff B)⟩

/-! A stored checksum (R124). -/

theorem checksumOk_iff_onesSum (B : Buffer) : checksumOk B = true ↔ onesSum B = 0xFFFF := beq_iff_eq

theorem internetChecksum_eq_zero_iff (B : Buffer) : internetChecksum B = 0 ↔ onesSum B = 0xFFFF := by
  have := (onesSum B).isLt
  rw [← BitVec.toNat_inj, ← BitVec.toNat_inj, internetChecksum_toNat]
  change 65535 - (onesSum B).toNat = 0 ↔ (onesSum B).toNat = 65535
  omega

theorem byteAt_eq_getElem {B : Buffer} {i : Nat} (h : i < B.length) : byteAt B i = B[i] := List.getD_eq_getElem _ _ h

/-- A value stored at an even offset that held zeros adds itself to the sum. -/
theorem sumWords_memWrite16 {B : Buffer} {i : Nat} (v : U16) (even : i % 2 = 0) (inside : i + 2 ≤ B.length)
    (hi : byteAt B i = 0) (lo : byteAt B (i + 1) = 0) : sumWords (memWrite16 B i v) = sumWords B + v.toNat := by
  have front : (B.take i).length % 2 = 0 := by rw [List.length_take_of_le (by omega), even]
  have field : B.drop i = 0 :: 0 :: B.drop (i + 2) := by
    rw [List.drop_eq_getElem_cons (by omega), List.drop_eq_getElem_cons (by omega), ← byteAt_eq_getElem,
      ← byteAt_eq_getElem, hi, lo]
  have before : sumWords B = sumWords (B.take i) + sumWords (B.drop (i + 2)) := by
    conv_lhs => rw [← List.take_append_drop i B, sumWords_append _ _ front, field]
    simp [sumWords]
  rw [memWrite16, List.append_assoc, sumWords_append _ _ front, sumWords_append (put16 v) _ (by rw [put16_length]),
    sumWords_put16, before]
  omega

/-- R124: the checksum brings the sum to a non-zero multiple of 0xFFFF. -/
theorem checksumOk_memWrite16 {B : Buffer} {i : Nat} (even : i % 2 = 0) (inside : i + 2 ≤ B.length)
    (hi : byteAt B i = 0) (lo : byteAt B (i + 1) = 0) : checksumOk (memWrite16 B i (internetChecksum B)) = true := by
  rw [checksumOk_iff, sumWords_memWrite16 _ even inside hi lo, internetChecksum_toNat, onesSum_toNat]
  split <;> omega

/-- R143: ENC.IPV4 stores the checksum of a header whose field is zero. -/
theorem checksumOk_buildIpv4 (n : Nat) (ipId : U16) (src dst : U32) : checksumOk (buildIpv4 n ipId src dst) = true :=
  checksumOk_memWrite16 (by decide) (by simp) (by simp [packIpv4, bareIpv4, put16])
    (by simp [packIpv4, bareIpv4, put16])

/-- The byte at an index behind a leading buffer. -/
theorem byteAt_append_right (A C : Buffer) (i : Nat) : byteAt (A ++ C) (A.length + i) = byteAt C i := by
  rw [byteAt, List.getD_append_right _ _ _ _ (Nat.le_add_right _ _), Nat.add_sub_cancel_left, byteAt]

/-- A value stored in the middle of a buffer. -/
theorem memWrite16_append (A C : Buffer) {B : Buffer} {i : Nat} (v : U16) (h : i + 2 ≤ B.length) :
    memWrite16 (A ++ B ++ C) (A.length + i) v = A ++ memWrite16 B i v ++ C := by
  have drop : A.length + i + 2 = A.length + (i + 2) := Nat.add_assoc _ _ _
  simp only [memWrite16, List.append_assoc, List.take_length_add_append, drop, List.drop_length_add_append,
    List.take_append_of_le_length (by omega : i ≤ B.length), List.drop_append_of_le_length h]

/-- R124 for a field in the middle of what is summed. -/
theorem checksumOk_append_memWrite16 {A B : Buffer} {i : Nat} (C : Buffer) (evenA : A.length % 2 = 0)
    (even : i % 2 = 0) (inside : i + 2 ≤ B.length) (hi : byteAt B i = 0) (lo : byteAt B (i + 1) = 0) :
    checksumOk (A ++ memWrite16 B i (internetChecksum (A ++ B ++ C)) ++ C) = true := by
  have read {j : Nat} (h : j < B.length) : byteAt (A ++ B ++ C) (A.length + j) = byteAt B j := by
    rw [List.append_assoc, byteAt_append_right, byteAt_append C h]
  rw [← memWrite16_append A C _ inside]
  refine checksumOk_memWrite16 (by omega) ?_ ?_ ?_
  · rw [List.length_append, List.length_append]
    omega
  · rw [read (by omega), hi]
  · rw [Nat.add_assoc, read (by omega), lo]

/-- R147: ENC.TCP stores the checksum of pseudo-header, header and payload, the field zero. -/
theorem checksumOk_buildTcp (sp dp : U16) (seq ack : U32) (flags : Byte) (w : U16) (src dst : U32) (P : Buffer) :
    checksumOk (pseudoHeader src dst P.length ++ buildTcp sp dp seq ack flags w src dst P ++ P) = true :=
  checksumOk_append_memWrite16 P (by simp) (by decide) (by simp) (by simp [packTcp, bareTcp, put16])
    (by simp [packTcp, bareTcp, put16])

/-- Settles O10: the laws above, through the unit. -/
theorem storedChecksumVerifies : Obligations.StoredChecksumVerifies := by
  unfold Obligations.StoredChecksumVerifies
  refine ⟨fun B s => ?_, fun B i s even inside hi lo => ?_, checksumOk_buildIpv4,
    fun sp dp w seq ack src dst flags P => checksumOk_buildTcp sp dp seq ack flags w src dst P⟩
  · exact ⟨checksumOk B, exec_csumok B s, checksumOk_iff_onesSum B,
      (checksumOk_iff_onesSum B).trans (internetChecksum_eq_zero_iff B).symm⟩
  · rw [exec_csumok, checksumOk_memWrite16 even inside hi lo]
    rfl

/-! One changed byte (R127). -/

/-- What a byte at index `i` counts for in the sum: 256 as the high byte of its word, 1 as the low byte. -/
def byteWeight (i : Nat) : Nat := if i % 2 = 0 then 256 else 1

/-- Replacing a byte changes the true sum by the weighted difference. -/
theorem sumWords_set (B : Buffer) (i : Nat) (b : Byte) (h : i < B.length) :
    sumWords (B.set i b) + byteWeight i * (byteAt B i).toNat = sumWords B + byteWeight i * b.toNat := by
  induction B using sumWords.induct generalizing i with
  | case1 => simp at h
  | case2 a =>
    obtain rfl : i = 0 := by simpa using h
    simp [sumWords, byteWeight]
    omega
  | case3 a c rest ih =>
    match i with
    | 0 => simp [sumWords, byteWeight]; omega
    | 1 => simp [sumWords, byteWeight]; omega
    | j + 2 =>
      have weight : byteWeight (j + 2) = byteWeight j := by simp [byteWeight]
      have := ih j (by simpa using h)
      simp only [List.set_cons_succ, sumWords, byteAt_succ, weight]
      omega

/-- R127 (2): the weighted difference is less than 0xFFFF in size, so it does not vanish modulo 0xFFFF. -/
theorem internetChecksum_set_ne (B : Buffer) (i : Nat) (b : Byte) (h : i < B.length) (hb : b ≠ byteAt B i) :
    internetChecksum (B.set i b) ≠ internetChecksum B := by
  intro same
  have sums : sumWords (B.set i b) % 65535 = sumWords B % 65535 := by
    have ones : (onesSum (B.set i b)).toNat = (onesSum B).toNat := by
      rw [internetChecksum_eq_not, internetChecksum_eq_not, BitVec.not_inj] at same
      rw [same]
    rw [← onesSum_mod, ones, onesSum_mod]
  have bytes : b.toNat ≠ (byteAt B i).toNat := fun e => hb (BitVec.eq_of_toNat_eq e)
  have change := sumWords_set B i b h
  have := b.isLt
  have := (byteAt B i).isLt
  unfold byteWeight at change
  split at change <;> omega

/-- A changed byte behind a leading buffer. -/
theorem internetChecksum_append_set_ne (A : Buffer) {P : Buffer} {i : Nat} {b : Byte} (h : i < P.length)
    (hb : b ≠ byteAt P i) : internetChecksum (A ++ P.set i b) ≠ internetChecksum (A ++ P) := by
  have whole : A ++ P.set i b = (A ++ P).set (A.length + i) b := by simp
  rw [whole]
  refine internetChecksum_set_ne _ _ _ (by simpa using h) ?_
  rwa [byteAt_append_right]

/-- Settles O11: a payload byte of TCPCSUM is a byte of the buffer it sums. -/
theorem oneByteChangeIsDetected : Obligations.OneByteChangeIsDetected := by
  unfold Obligations.OneByteChangeIsDetected
  refine ⟨internetChecksum_set_ne, fun H src dst P i b _ hi hb => ?_⟩
  rw [tcpChecksum, tcpChecksum, List.length_set]
  exact internetChecksum_append_set_ne _ hi hb

end Sys2Proof.Proofs
end

section
/-! The datagram of the send path taken apart (spec 43_send_path.md R201 to R203), and what the front end at the other
end reads of it (44_dispatch_filter.md R221, R226). -/

namespace Sys2Proof.Proofs

open Sys2Proof.Machine Sys2Proof.Laws Sys2Proof.Safety

/-- The IPv4 header record the send path puts out for a payload of `n` bytes (R201). -/
def sentIpv4 (c : Ccb) (ipId : U16) (n : Nat) : IPv4Header :=
  { bareIpv4 n ipId c.localAddr c.remoteAddr with
    checksum := internetChecksum (packIpv4 (bareIpv4 n ipId c.localAddr c.remoteAddr)) }

/-- The TCP header record the send path puts out (R202). -/
def sentTcp (c : Ccb) (flags : Byte) (P : Buffer) : TCPHeader :=
  { bareTcp c.localPort c.remotePort c.sendSeq c.sendAck flags c.recvWindow with
    checksum := tcpChecksum (packTcp (bareTcp c.localPort c.remotePort c.sendSeq c.sendAck flags c.recvWindow))
      c.localAddr c.remoteAddr P }

section
variable (c : Ccb) (ipId : U16) (flags : Byte) (P : Buffer)

/-- R203: the two packed headers, then the payload. -/
theorem datagramOf_eq :
    datagramOf c ipId flags P = packIpv4 (sentIpv4 c ipId P.length) ++ (packTcp (sentTcp c flags P) ++ P) :=
  List.append_assoc _ _ _

theorem take_datagramOf : (datagramOf c ipId flags P).take 20 = packIpv4 (sentIpv4 c ipId P.length) := by
  rw [datagramOf_eq]
  exact List.take_left' (packIpv4_length _)

theorem drop_datagramOf : (datagramOf c ipId flags P).drop 20 = packTcp (sentTcp c flags P) ++ P := by
  rw [datagramOf_eq]
  exact List.drop_left' (packIpv4_length _)

theorem drop_datagramOf_payload : (datagramOf c ipId flags P).drop 40 = P := by
  have h : ((datagramOf c ipId flags P).drop 20).drop 20 = P := by
    rw [drop_datagramOf]
    exact List.drop_left' (packTcp_length _)
  rwa [List.drop_drop] at h

theorem unpackIpv4_take_datagramOf :
    unpackIpv4 ((datagramOf c ipId flags P).take 20) = sentIpv4 c ipId P.length := by
  rw [take_datagramOf, unpackIpv4_packIpv4]

theorem unpackTcp_take_drop_datagramOf :
    unpackTcp (((datagramOf c ipId flags P).drop 20).take 20) = sentTcp c flags P := by
  rw [drop_datagramOf, List.take_left' (packTcp_length _), unpackTcp_packTcp]

@[simp] theorem sentIpv4_ihl (n : Nat) : (sentIpv4 c ipId n).ihl = 5 := rfl

@[simp] theorem sentTcp_doff : (sentTcp c flags P).doff = 5 := rfl

/-- The peer's protocol and address stage passes what is sent: the protocol is the constant, the addresses are
swapped. -/
theorem filterIp_mirror (n : Nat) : filterIp (sentIpv4 c ipId n) (mirror c) = none := by
  exact (filterIp_eq _ _).trans ((if_neg (not_not.mpr rfl)).trans (if_pos ⟨rfl, rfl⟩))

/-- The peer's port stage passes what is sent: the ports are swapped. -/
theorem filterPort_mirror : filterPort (sentTcp c flags P) (mirror c) = none := by
  rw [filterPort_eq, if_pos ⟨rfl, rfl⟩]

/-- DEC.DGRAM gives back the two header records that were sent and the payload (R150, R151). -/
theorem decodeDatagram_datagramOf :
    decodeDatagram (datagramOf c ipId flags P) = some (sentIpv4 c ipId P.length, sentTcp c flags P, P) := by
  have ip : unpackIpv4 (slice (datagramOf c ipId flags P) 0 20) = sentIpv4 c ipId P.length :=
    unpackIpv4_take_datagramOf c ipId flags P
  have tcp : tcpOf (sentIpv4 c ipId P.length) (datagramOf c ipId flags P) = sentTcp c flags P :=
    (tcpOf_eq _ _).trans (unpackTcp_take_drop_datagramOf c ipId flags P)
  have payload : payloadOf (sentIpv4 c ipId P.length) (sentTcp c flags P) (datagramOf c ipId flags P) = P :=
    (payloadOf_eq_drop _ _ _).trans (drop_datagramOf_payload c ipId flags P)
  simp [decodeDatagram, ip, tcp, payload, tcpInBounds, tcpOffset]

end

/-! The front end of RX_DATAGRAM against DEC.DGRAM and the filter (R227). -/

theorem receiveTcp_eq_ok_iff (c : Ccb) (ip : IPv4Header) (B : Buffer) (tcp : TCPHeader) (P : Buffer) :
    receiveTcp c ip B = .ok (tcp, P) ↔
      filterPort tcp c = none ∧ 5 ≤ tcp.doff.toNat ∧ tcp = tcpOf ip B ∧ P = payloadOf ip tcp B := by
  rw [receiveTcp]
  constructor
  · intro h
    split at h
    · cases h
    · split at h
      · cases h
      · cases h
        exact ⟨‹_›, by omega, rfl, rfl⟩
  · rintro ⟨pass, doff, rfl, rfl⟩
    rw [pass]
    exact if_neg (by omega)

theorem receive_eq_ok_iff (c : Ccb) (B : Buffer) (tcp : TCPHeader) (P : Buffer) :
    receive c B = .ok (tcp, P) ↔
      filterIp (unpackIpv4 (slice B 0 20)) c = none ∧ 40 ≤ B.length ∧
        tcpInBounds (unpackIpv4 (slice B 0 20)) B = true ∧
        receiveTcp c (unpackIpv4 (slice B 0 20)) B = .ok (tcp, P) := by
  rw [receive]
  dsimp only
  constructor
  · intro h
    split at h
    · cases h
    · split at h
      · cases h
      · split at h
        · exact ⟨‹_›, by omega, ‹_›, h⟩
        · cases h
  · rintro ⟨pass, long, inside, run⟩
    rw [if_neg (by omega), pass]
    simp only [inside, if_true, run]

theorem decodeDatagram_eq_some_iff (B : Buffer) (ip : IPv4Header) (tcp : TCPHeader) (P : Buffer) :
    decodeDatagram B = some (ip, tcp, P) ↔
      ip = unpackIpv4 (slice B 0 20) ∧ 40 ≤ B.length ∧ tcpInBounds ip B = true ∧ 5 ≤ tcp.doff.toNat ∧
        tcp = tcpOf ip B ∧ P = payloadOf ip tcp B := by
  rw [decodeDatagram]
  dsimp only
  constructor
  · intro h
    split_ifs at h with short outside doff
    cases h
    exact ⟨rfl, by omega, by simpa using outside, by omega, rfl, rfl⟩
  · rintro ⟨rfl, long, inside, doff, rfl, rfl⟩
    rw [if_neg (by omega), if_neg (by simp [inside]), if_neg (by omega)]

/-- Settles O22: both sides ask for the same length checks, the same header and payload, and the two filter stages. -/
theorem receptionIsDecodeAndFilter : Obligations.ReceptionIsDecodeAndFilter := by
  unfold Obligations.ReceptionIsDecodeAndFilter
  intro c B tcp P
  simp only [receive_eq_ok_iff, receiveTcp_eq_ok_iff, decodeDatagram_eq_some_iff]
  constructor
  · rintro ⟨addr, long, inside, port, doff, htcp, hP⟩
    exact ⟨_, ⟨rfl, long, inside, doff, htcp, hP⟩, addr, port⟩
  · rintro ⟨_, ⟨rfl, long, inside, doff, htcp, hP⟩, addr, port⟩
    exact ⟨addr, long, inside, port, doff, htcp, hP⟩

/-- Settles O27, by O22: the datagram decodes to the records that were sent, and both filter stages pass them. -/
theorem peerAcceptsTheDatagram : Obligations.PeerAcceptsTheDatagram := by
  unfold Obligations.PeerAcceptsTheDatagram
  intro c ipId flags P _
  exact ⟨_, (receptionIsDecodeAndFilter _ _ _ _).mpr
    ⟨_, decodeDatagram_datagramOf c ipId flags P, filterIp_mirror c ipId P.length, filterPort_mirror c flags P⟩⟩

/-! Soundness of the datagram sent (R83, R86, R128, R206). -/

/-- R90, R206: one of the four flags bytes, a payload the total length field has room for, and one only with PSH+ACK. -/
def SegmentKind (flags : Byte) (P : Buffer) : Prop :=
  flags ∈ [0x02, 0x10, 0x11, (0x18 : Byte)] ∧ P.length ≤ 65495 ∧ (P ≠ [] → flags = 0x18)

theorem byteAt_drop (B : Buffer) (k i : Nat) : byteAt (B.drop k) i = byteAt B (k + i) := by
  simp [byteAt]

theorem be16_drop (B : Buffer) (k i : Nat) : be16 (B.drop k) i = be16 B (k + i) := by
  rw [be16, byteAt_drop, byteAt_drop, be16, Nat.add_assoc]

section
variable (c : Ccb) (ipId : U16) (flags : Byte) (P : Buffer)

theorem unpackIpv4_datagramOf : unpackIpv4 (datagramOf c ipId flags P) = sentIpv4 c ipId P.length := by
  rw [datagramOf_eq, unpackIpv4_append _ (packIpv4_length _).ge, unpackIpv4_packIpv4]

theorem unpackTcp_drop_datagramOf : unpackTcp ((datagramOf c ipId flags P).drop 20) = sentTcp c flags P := by
  rw [drop_datagramOf, unpackTcp_append _ (packTcp_length _).ge, unpackTcp_packTcp]

theorem checksumOk_take_datagramOf : checksumOk ((datagramOf c ipId flags P).take 20) = true := by
  rw [take_datagramOf]
  exact checksumOk_buildIpv4 P.length ipId c.localAddr c.remoteAddr

theorem checksumOk_pseudoHeader_datagramOf :
    checksumOk (pseudoHeader c.localAddr c.remoteAddr P.length ++ (datagramOf c ipId flags P).drop 20) = true := by
  rw [drop_datagramOf, ← List.append_assoc]
  exact checksumOk_buildTcp c.localPort c.remotePort c.sendSeq c.sendAck flags c.recvWindow c.localAddr c.remoteAddr P

end

/-! The bytes a sound datagram is asked for, as fields of its two headers (R82, R84). -/

theorem byteAt_zero_eq_nibbles (D : Buffer) :
    byteAt D 0 = nibbles (unpackIpv4 D).version (unpackIpv4 D).ihl := (nibbles_of_byte _).symm

theorem byteAt_dataOffset (D : Buffer) :
    byteAt D 32 = offsetByte (unpackTcp (D.drop 20)).doff (unpackTcp (D.drop 20)).reserved (unpackTcp (D.drop 20)).ns :=
  (byteAt_drop D 20 12).symm.trans (offsetByte_of_byte _).symm

theorem byteAt_flags (D : Buffer) : byteAt D 33 = (unpackTcp (D.drop 20)).flags := (byteAt_drop D 20 13).symm

theorem be16_window (D : Buffer) : be16 D 34 = (unpackTcp (D.drop 20)).window := (be16_drop D 20 14).symm

theorem be16_urgent (D : Buffer) : be16 D 38 = (unpackTcp (D.drop 20)).urgent := (be16_drop D 20 18).symm

/-- Byte 13 of the TCP header is the flags byte SENDSEG was given. -/
theorem byteAt_flags_datagramOf (c : Ccb) (ipId : U16) (flags : Byte) (P : Buffer) :
    byteAt (datagramOf c ipId flags P) 33 = flags := by
  rw [byteAt_flags, unpackTcp_drop_datagramOf, sentTcp, bareTcp]

/-- A buffer with the two records at its head, whose checksums verify, is a sound datagram. -/
theorem soundDatagram_of_records {D : Buffer} {c : Ccb} {ipId : U16} {flags : Byte} {P : Buffer}
    (len : D.length = 40 + P.length) (ip : unpackIpv4 D = sentIpv4 c ipId P.length)
    (tcp : unpackTcp (D.drop 20) = sentTcp c flags P) (ipSum : checksumOk (D.take 20) = true)
    (tcpSum : checksumOk (pseudoHeader c.localAddr c.remoteAddr P.length ++ D.drop 20) = true)
    (window : c.recvWindow = 65535) (kind : SegmentKind flags P) : SoundDatagram D := by
  obtain ⟨known, short, carried⟩ := kind
  have payload : D.length - 40 = P.length := by omega
  have hflags : byteAt D 33 = flags := by rw [byteAt_flags, tcp, sentTcp, bareTcp]
  have src : be32 D 12 = c.localAddr := congrArg IPv4Header.src ip
  have dst : be32 D 16 = c.remoteAddr := congrArg IPv4Header.dst ip
  have total : be16 D 2 = BitVec.ofNat 16 (40 + P.length) := congrArg IPv4Header.totalLength ip
  exact {
    atLeast40 := by omega
    atMost65535 := by omega
    versionIhl := by rw [byteAt_zero_eq_nibbles, ip]; rfl
    tosZero := congrArg IPv4Header.tos ip
    totalLength := by rw [total, totalLength_toNat short, len]
    noFragment := congrArg IPv4Header.flagsFrag ip
    ttl64 := congrArg IPv4Header.ttl ip
    protocolTcp := congrArg IPv4Header.protocol ip
    ipv4Checksum := ipSum
    dataOffset := by rw [byteAt_dataOffset, tcp]; rfl
    flagKind := by rw [hflags]; exact known
    payloadKind := fun h => hflags.trans (carried fun empty => h (by rw [len, empty]; rfl))
    fullWindow := by rw [be16_window, tcp]; exact window
    urgentZero := by rw [be16_urgent, tcp]; rfl
    tcpChecksum := by rw [src, dst, payload, tcpSum] }

/-- R128, R206: what the send path assembles with the full window and for one of the segment kinds. -/
theorem soundDatagram_datagramOf {c : Ccb} (ipId : U16) {flags : Byte} {P : Buffer} (window : c.recvWindow = 65535)
    (kind : SegmentKind flags P) : SoundDatagram (datagramOf c ipId flags P) :=
  soundDatagram_of_records (datagramOf_length c ipId flags P) (unpackIpv4_datagramOf c ipId flags P)
    (unpackTcp_drop_datagramOf c ipId flags P) (checksumOk_take_datagramOf c ipId flags P)
    (checksumOk_pseudoHeader_datagramOf c ipId flags P) window kind

/-- Settles O28: the hypotheses are those of a segment kind. -/
theorem assembledDatagramIsSound : Obligations.AssembledDatagramIsSound := by
  unfold Obligations.AssembledDatagramIsSound
  intro c ipId flags P window short known carried
  exact soundDatagram_datagramOf ipId window ⟨known, short, carried⟩

end Sys2Proof.Proofs
end

section
/-! The codec's round trips and the filter's compare (spec 41_codec.md R148; 44_dispatch_filter.md R228). -/

namespace Sys2Proof.Proofs

open Sys2Proof.Machine Sys2Proof.Laws

/-! Round trips (R148). -/

theorem packIpv4_unpackIpv4 {B : Buffer} (h : B.length = 20) : packIpv4 (unpackIpv4 B) = B := by
  match B, h with
  | [_, _, _, _, _, _, _, _, _, _, _, _, _, _, _, _, _, _, _, _], _ =>
    simp [packIpv4, unpackIpv4, put16_be16, put32_be32]

theorem packTcp_unpackTcp {B : Buffer} (h : B.length = 20) : packTcp (unpackTcp B) = B := by
  match B, h with
  | [_, _, _, _, _, _, _, _, _, _, _, _, _, _, _, _, _, _, _, _], _ =>
    simp [packTcp, unpackTcp, put16_be16, put32_be32]

/-- Settles O14: packing and unpacking are inverse to each other on records and on twenty bytes. -/
theorem headerCodecRoundTrips : Obligations.HeaderCodecRoundTrips := by
  unfold Obligations.HeaderCodecRoundTrips
  refine ⟨fun h s => ?_, fun B s hB => ?_, fun t s => ?_, fun B s hB => ?_⟩
  · refine ⟨packIpv4 h, exec_packIpv4 h s, packIpv4_length h, ?_⟩
    rw [exec_decIpv4 s (packIpv4_length h).ge, unpackIpv4_packIpv4]
    rfl
  · refine ⟨unpackIpv4 B, exec_decIpv4 s hB.ge, ?_⟩
    rw [exec_packIpv4, packIpv4_unpackIpv4 hB]
    rfl
  · refine ⟨packTcp t, exec_packTcp t s, packTcp_length t, ?_⟩
    rw [exec_decTcp s (packTcp_length t).ge, unpackTcp_packTcp]
    rfl
  · refine ⟨unpackTcp B, exec_decTcp s hB.ge, ?_⟩
    rw [exec_packTcp, packTcp_unpackTcp hB]
    rfl

/-! The compare at full width (R228). -/

/-- Concatenations are equal exactly when their parts are. -/
theorem append_inj_iff {v w : Nat} {a b : BitVec v} {x y : BitVec w} : a ++ x = b ++ y ↔ a = b ∧ x = y := by
  constructor
  · intro h
    have left := congrArg (BitVec.extractLsb' w v) h
    have right := congrArg (BitVec.extractLsb' 0 w) h
    rw [BitVec.extractLsb'_append_eq_left, BitVec.extractLsb'_append_eq_left] at left
    rw [BitVec.extractLsb'_append_eq_right, BitVec.extractLsb'_append_eq_right] at right
    exact ⟨left, right⟩
  · rintro ⟨rfl, rfl⟩
    rfl

theorem filterIp_eq_none_iff (ip : IPv4Header) (c : Ccb) :
    filterIp ip c = none ↔ ip.protocol = 6 ∧ ip.src = c.remoteAddr ∧ ip.dst = c.localAddr := by
  rw [filterIp_eq]
  split_ifs with other addr
  · exact iff_of_false nofun fun h => other h.1
  · exact iff_of_true rfl ⟨not_not.mp other, addr⟩
  · exact iff_of_false nofun fun h => addr h.2

theorem filterPort_eq_none_iff (tcp : TCPHeader) (c : Ccb) :
    filterPort tcp c = none ↔ tcp.srcPort = c.remotePort ∧ tcp.dstPort = c.localPort := by
  rw [filterPort_eq]
  simp

/-- Settles O21: the keys are equal exactly when their five fields are, which the stages ask for. -/
theorem filterIsAFullWidthCompare : Obligations.FilterIsAFullWidthCompare := by
  unfold Obligations.FilterIsAFullWidthCompare
  intro ip tcp c
  simp only [filterIp_eq_none_iff, filterPort_eq_none_iff, append_inj_iff, and_assoc]

end Sys2Proof.Proofs
end

section
/-! SENDSEG, the segment kinds and the unit operations outside their operands (spec 43_send_path.md R200, R204, R205;
30_encoding.md R90). -/

namespace Sys2Proof.Proofs

open Sys2Proof.Machine Sys2Proof.Laws

/-- Settles O13: each unit's guard fails. -/
theorem unitsStopOutsideTheirOperands : Obligations.UnitsStopOutsideTheirOperands := by
  unfold Obligations.UnitsStopOutsideTheirOperands
  refine ⟨fun B s h => ?_, fun H P src dst s h => ?_, fun n ipId src dst s h => ?_,
    fun sp dp w seq ack src dst flags P s h => ?_, fun src dst n s h => ?_, fun flags P s h => ?_⟩
  · exact ⟨if_neg (Nat.not_le.mpr h), if_neg (Nat.not_le.mpr h)⟩
  · refine if_neg (not_and_or.mpr (h.imp id fun long => Nat.not_le.mpr long))
  · exact if_neg (Nat.not_le.mpr h)
  · exact if_neg (Nat.not_le.mpr h)
  · exact if_neg (Nat.not_le.mpr h)
  · exact ⟨if_neg (Nat.not_le.mpr h), if_neg (Nat.not_le.mpr h)⟩

/-! SENDSEG executed by itself, and the kinds as SENDSEG with their flags byte (R206). -/

theorem exec_sendseg (flags : Byte) {P : Buffer} (s : State) (h : P.length ≤ Config.maxPayload) :
    exec (.sendseg flags P) s = .next (sendAlone flags P s) := if_pos h

theorem exec_txSyn (s : State) : exec .txSyn s = .next (sendAlone synFlags [] s) := rfl

theorem exec_txAck (s : State) : exec .txAck s = .next (sendAlone ackFlags [] s) := rfl

theorem exec_txFinack (s : State) : exec .txFinack s = .next (sendAlone finAckFlags [] s) := rfl

theorem exec_txPshack {P : Buffer} (s : State) (h : P.length ≤ Config.maxPayload) :
    exec (.txPshack P) s = .next (sendAlone pshAckFlags P s) := if_pos h

/-- The sequence space with its test for SYN or FIN written as R204 has it. -/
theorem sequenceSpace_eq (flags : Byte) (n : Nat) :
    sequenceSpace flags n = n + if flags &&& 0x03 ≠ 0 then 1 else 0 := by
  simp only [sequenceSpace, bne_iff_ne]

theorem sendAlone_sent (flags : Byte) (P : Buffer) {s : State} (h : (drawTransmit s).1.txOk = true) :
    sendAlone flags P s = { (drawTransmit s).2 with
      ccb := { s.ccb with
        sendSeq := s.ccb.sendSeq + BitVec.ofNat 32 (sequenceSpace flags P.length), lastSent := (drawTransmit s).1.now }
      outputs := s.outputs ++ [.tx (datagramOf s.ccb (drawTransmit s).1.ipId flags P)]
      result := some (.sent true) } := by
  have sent := sendSegment_sent_of_ccb_outputs s.ccb s.outputs h flags P
  rw [seqAdd_eq] at sent
  rw [sendAlone, sent]
  rfl

theorem sendAlone_failed (flags : Byte) (P : Buffer) {s : State} (h : (drawTransmit s).1.txOk = false) :
    sendAlone flags P s = { (drawTransmit s).2 with result := some (.sent false) } := by
  rw [sendAlone, sendSegment_failed _ _ _ h]
  rfl

/-- Settles O26: every listed operation is SENDSEG by itself, which sends or fails. -/
theorem sendSegmentResult : Obligations.SendSegmentResult := by
  unfold Obligations.SendSegmentResult
  intro i flags P listed s d s' c
  have alone : exec i s = .next (sendAlone flags P s) := by
    obtain ⟨rfl, h⟩ | ⟨rfl, rfl, rfl⟩ | ⟨rfl, rfl, rfl⟩ | ⟨rfl, rfl, rfl⟩ | ⟨rfl, rfl, h⟩ := listed
    · exact exec_sendseg flags s h
    · exact exec_txSyn s
    · exact exec_txAck s
    · exact exec_txFinack s
    · exact exec_txPshack s h
  rw [alone]
  refine ⟨fun hd => ?_, fun hd => ?_⟩
  · rw [sendAlone_sent flags P hd, sequenceSpace_eq]
    rfl
  · rw [sendAlone_failed flags P hd]

end Sys2Proof.Proofs
end

section
/-! The receive classes one by one (spec 42_state_machine.md R173 to R175, R177), and HANDLE's table (R180). -/

namespace Sys2Proof.Proofs

open Sys2Proof.Machine Sys2Proof.Laws Sys2Proof.Safety

/-- A transmission the transport refuses, from a state written as its draws with a block and outputs in place (R205). -/
theorem sendSegment_failed_of_ccb_outputs (c : Ccb) (out : List OutEvent) {s : State}
    (h : (drawTransmit s).1.txOk = false) (flags : Byte) (P : Buffer) :
    sendSegment flags P { s with ccb := c, outputs := out } =
      (false, { (drawTransmit s).2 with ccb := c, outputs := out }) := by
  rw [sendSegment_failed _ _ _ (by rwa [drawTransmit_of_ccb_outputs]), drawTransmit_of_ccb_outputs]

/-! R173. -/

/-- The block R173 leaves before its ACK. -/
def accepted (tcp : TCPHeader) (c : Ccb) : Ccb :=
  { c with recvSeq := tcp.seq + 1, sendAck := tcp.seq + 1, recvAck := tcp.ack, state := .established }

theorem acceptSynAck_eq_accepted (tcp : TCPHeader) (s : State) :
    acceptSynAck tcp s = { s with ccb := accepted tcp s.ccb } := by
  rw [acceptSynAck, seqAdd_eq]
  rfl

theorem ruleSynAck_sent (tcp : TCPHeader) {s : State} (h : (drawTransmit s).1.txOk = true) :
    ruleSynAck tcp s = (.handled, { (drawTransmit s).2 with
      ccb := { accepted tcp s.ccb with lastSent := (drawTransmit s).1.now }
      outputs := s.outputs ++ [.tx (datagramOf (accepted tcp s.ccb) (drawTransmit s).1.ipId ackFlags [])] }) := by
  rw [ruleSynAck, acceptSynAck_eq_accepted, sendSegment_ack_sent (accepted tcp s.ccb) s.outputs h]
  rfl

theorem ruleSynAck_failed (tcp : TCPHeader) {s : State} (h : (drawTransmit s).1.txOk = false) :
    ruleSynAck tcp s = (.abortSendFailed, { (drawTransmit s).2 with ccb := accepted tcp s.ccb }) := by
  rw [ruleSynAck, acceptSynAck_eq_accepted, sendSegment_failed_of_ccb_outputs (accepted tcp s.ccb) s.outputs h,
    ← drawTransmit_outputs s]
  rfl

/-- Settles O29: the two outcomes of the ACK. -/
theorem synAckOpensTheConnection : Obligations.SynAckOpensTheConnection := by
  unfold Obligations.SynAckOpensTheConnection
  intro tcp P s hs hsyn hack d s' c
  rw [exec_rxSynsentSynack P hs ((hasSynAck_iff tcp).mpr ⟨hsyn, hack⟩)]
  refine ⟨fun hd => ?_, fun hd => ?_⟩
  · rw [ruleSynAck_sent tcp hd]
    rfl
  · rw [ruleSynAck_failed tcp hd]
    rfl

/-! R174. -/

theorem ruleData_failed (P : Buffer) {s : State} (h : (drawTransmit s).1.txOk = false) :
    ruleData P s = (.abortSendFailed, { (drawTransmit s).2 with ccb := received P.length s.ccb }) := by
  rw [ruleData, advanceReceive_eq_received, sendSegment_failed_of_ccb_outputs (received P.length s.ccb) s.outputs h,
    ← drawTransmit_outputs s]
  rfl

/-- Settles O30: the two outcomes of the ACK. -/
theorem dataIsAckedThenDelivered : Obligations.DataIsAckedThenDelivered := by
  unfold Obligations.DataIsAckedThenDelivered
  intro tcp P s hs hP d s' c
  rw [exec_rxEstData tcp hs (List.ne_nil_of_length_pos hP)]
  refine ⟨fun hd => ?_, fun hd => ?_⟩
  · have sent := ruleData_sent s.ccb s.outputs hd P
    rw [sent]
    rfl
  · rw [ruleData_failed P hd]
    rfl

/-! R175. -/

section
variable {s : State}

theorem ruleFin_firstFailed (h : (drawTransmit s).1.txOk = false) :
    ruleFin s =
      (.abortSendFailed, { (drawTransmit s).2 with ccb := { received 1 s.ccb with state := .closeWait } }) := by
  rw [ruleFin, advanceReceive_eq_received, setTcpState,
    sendSegment_failed_of_ccb_outputs { received 1 s.ccb with state := .closeWait } s.outputs h,
    ← drawTransmit_outputs s]
  rfl

theorem ruleFin_secondFailed (h : (drawTransmit s).1.txOk = true)
    (h' : (drawTransmit (drawTransmit s).2).1.txOk = false) :
    ruleFin s = (.abortSendFailed, { (drawTransmit (drawTransmit s).2).2 with
      ccb := { received 1 s.ccb with state := .closeWait, lastSent := (drawTransmit s).1.now }
      outputs := s.outputs ++ [
        .tx (datagramOf { received 1 s.ccb with state := .closeWait } (drawTransmit s).1.ipId ackFlags [])] }) := by
  rw [ruleFin, advanceReceive_eq_received, setTcpState]
  rw [sendSegment_ack_sent { received 1 s.ccb with state := .closeWait } s.outputs h]
  rw [if_pos rfl, sendSegment_failed_of_ccb_outputs _ _ h']
  rfl

end

/-- Settles O31: the outcomes of the ACK and of the FIN+ACK. -/
theorem finIsAnsweredTwice : Obligations.FinIsAnsweredTwice := by
  unfold Obligations.FinIsAnsweredTwice
  intro tcp P s hs hfin d s' e s'' c
  rw [exec_rxEstFin P hs ((hasFin_iff tcp).mpr hfin)]
  refine ⟨fun hd => ?_, fun hd he => ?_, fun hd he => ?_⟩
  · rw [ruleFin_firstFailed hd]
    rfl
  · rw [ruleFin_secondFailed hd he]
    rfl
  · have sent := ruleFin_sent s.ccb s.outputs hd he
    rw [sent]
    rfl

/-! The classes where their conditions do not hold (R171; log 9). -/

/-- The mask and match of R91 for the SYN+ACK class. -/
theorem hasSynAck_iff_mask (tcp : TCPHeader) : hasSynAck tcp = true ↔ tcp.flags &&& 0x12 = 0x12 := by
  rw [← classMatch_synAck]
  exact beq_iff_eq

theorem hasFin_iff_mask (tcp : TCPHeader) : hasFin tcp = true ↔ tcp.flags &&& 0x01 = 0x01 := by
  rw [← classMatch_fin]
  exact beq_iff_eq

theorem hasAck_iff_mask (tcp : TCPHeader) : hasAck tcp = true ↔ tcp.flags &&& 0x10 = 0x10 := by
  rw [← classMatch_ack]
  exact beq_iff_eq

/-- A class whose rule stands behind a test answers IGNORED when the test fails. -/
theorem outcomeAlone_unselected {test : Bool} {rule : HandleOutcome × State} {s : State} (h : ¬ test = true) :
    outcomeAlone (if test then rule else ruleIgnore s) = { s with result := some (.outcome .ignored) } := by
  rw [if_neg h]
  rfl

/-- Settles O34: each class's own test fails. -/
theorem unselectedClassIsIgnored : Obligations.UnselectedClassIsIgnored := by
  unfold Obligations.UnselectedClassIsIgnored
  intro tcp P s
  rw [← hasSynAck_iff_mask, ← hasFin_iff_mask, ← hasAck_iff_mask]
  refine ⟨exec_rxIgnore tcp P s, fun h => ?_, fun h => ?_, fun h => ?_, fun h => ?_⟩ <;>
    exact congrArg Host.Outcome.next (outcomeAlone_unselected (by simpa using h))

/-! The totality table (R180). -/

/-- What the flags bytes of the table's columns say to the rules. -/
theorem column_flags {tcp : TCPHeader} (h : tcp.flags ∈ [0x02, 0x12, 0x10, (0x01 : Byte)]) :
    (hasSynAck tcp = true ↔ tcp.flags = 0x12) ∧ (hasFin tcp = true ↔ tcp.flags = 0x01) ∧
      (hasAck tcp = true ↔ tcp.flags = 0x12 ∨ tcp.flags = 0x10) := by
  have columns : ∀ f ∈ [0x02, 0x12, 0x10, (0x01 : Byte)],
      ((f &&& 0x02 ≠ 0 ∧ f &&& 0x10 ≠ 0) ↔ f = 0x12) ∧ (f &&& 0x01 ≠ 0 ↔ f = 0x01) ∧
        (f &&& 0x10 ≠ 0 ↔ f = 0x12 ∨ f = 0x10) := by decide
  rw [hasSynAck_iff, hasFin_iff, hasAck_iff]
  exact columns tcp.flags h

/-- A cell of the table: where HANDLE ends, and the flags bytes of what it emits. -/
def MeetsCell (tcp : TCPHeader) (s : State) (cell : TcpState × List Byte) : Prop :=
  ∃ t new, exec (.handle tcp []) s = .next t ∧ t.ccb.state = cell.1 ∧ t.outputs = s.outputs ++ new ∧
    (datagrams new).map (fun D => byteAt D 33) = cell.2

section
variable {tcp : TCPHeader} {s : State}

theorem meetsCell_of_run {ran : HandleOutcome × State} {new : List OutEvent} {cell : TcpState × List Byte}
    (run : handleSegment tcp [] s = ran) (state : ran.2.ccb.state = cell.1) (outputs : ran.2.outputs = s.outputs ++ new)
    (flags : (datagrams new).map (fun D => byteAt D 33) = cell.2) : MeetsCell tcp s cell :=
  ⟨_, new, exec_handle tcp [] s, run ▸ state, run ▸ outputs, flags⟩

theorem meetsCell_synAck (hs : s.ccb.state = .synSent) (ht : hasSynAck tcp = true)
    (hd : (drawTransmit s).1.txOk = true) : MeetsCell tcp s (.established, [0x10]) := by
  refine meetsCell_of_run ((handleSegment_synSent [] hs ht).trans (ruleSynAck_sent tcp hd)) rfl rfl ?_
  simp [datagrams, byteAt_flags_datagramOf, ackFlags]

theorem meetsCell_fin (hs : s.ccb.state = .established) (ht : hasFin tcp = true)
    (hd : (drawTransmit s).1.txOk = true) (he : (drawTransmit (drawTransmit s).2).1.txOk = true) :
    MeetsCell tcp s (.lastAck, [0x10, 0x11]) := by
  have run : handleSegment tcp [] s = ruleFin s :=
    (handleSegment_established tcp [] hs).trans (handleEstablished_finOnly s ht)
  refine meetsCell_of_run (run.trans (ruleFin_sent s.ccb s.outputs hd he)) rfl rfl ?_
  simp [datagrams, byteAt_flags_datagramOf, ackFlags, finAckFlags]

theorem meetsCell_lastAck (hs : s.ccb.state = .lastAck) (ht : hasAck tcp = true) : MeetsCell tcp s (.closed, []) :=
  meetsCell_of_run (handleSegment_lastAck [] hs ht) rfl (List.append_nil _).symm rfl

theorem meetsCell_ignored (h : actingClasses s.ccb.state tcp [] = []) : MeetsCell tcp s (s.ccb.state, []) :=
  meetsCell_of_run (handleSegment_ignored h) rfl (List.append_nil _).symm rfl

end

/-- Settles O37: the three cells in which a rule acts, and the rest. -/
theorem totalityTableHolds : Obligations.TotalityTableHolds := by
  unfold Obligations.TotalityTableHolds
  intro tcp s column hd he
  obtain ⟨synAck, fin, ack⟩ := column_flags column
  change MeetsCell tcp s (tableCell s.ccb.state tcp.flags)
  rw [tableCell]
  split_ifs with h h' h''
  · exact meetsCell_synAck h.1 (synAck.mpr h.2) hd
  · exact meetsCell_fin h'.1 (fin.mpr h'.2) hd he
  · exact meetsCell_lastAck h''.1 (ack.mpr h''.2)
  · refine meetsCell_ignored ((actingClasses_eq_nil_iff s.ccb.state tcp []).mpr ?_)
    rw [synAck, fin, ack]
    exact ⟨h, fun c => h' ⟨c.1, c.2.resolve_left (not_not.mpr rfl)⟩, h''⟩

end Sys2Proof.Proofs
end

section
/-! Everything executing an operation can do: a run of single writes, then its answer. What the writes keep is said once
for all operations. -/

namespace Sys2Proof.Proofs

open Sys2Proof.Machine Sys2Proof.Laws Sys2Proof.Safety

/-! The relation. -/

/-- The operations a step takes beside RESET (R13): the host's commands and the events of the RX port. -/
def Issued (i : Instr) : Prop := isCommand i = true ∨ isRxEvent i = true

/-- One write made in executing `i`. CONNECT alone opens a block, RESET alone zeroes it. What a command or an event
sends is one of the segment kinds, from a block that is not closed; nothing but CONNECT leaves CLOSED. -/
inductive Write (i : Instr) : State → State → Prop where
  | drawn (s : State) : Write i s (drawConnect s).2
  | opened (x : ConnectDraw) (addr : U32) (port : U16) (s : State) (h : i = .connect addr port) :
      Write i s (setCcb (openCcb x addr port) s)
  | zeroed (s : State) (h : i = .reset) : Write i s (setCcb Ccb.zero s)
  | sent (flags : Byte) (P : Buffer) (s : State) (h : Issued i → SegmentKind flags P ∧ s.ccb.state ≠ .closed) :
      Write i s (sendSegment flags P s).2
  | moved (st : TcpState) (s : State) (h : s.ccb.state = .closed → st = .closed) : Write i s (setTcpState st s)
  | advanced (n : Nat) (s : State) : Write i s (advanceReceive n s)
  | accepted (tcp : TCPHeader) (s : State) (h : s.ccb.state ≠ .closed) : Write i s (acceptSynAck tcp s)
  | delivered (P : Buffer) (s : State) : Write i s (emit (.sink P) s)
  | switched (b : Bool) (s : State) : Write i s (setRunEn b s)

/-- The writes of an operation, one after the other. -/
abbrev Writes (i : Instr) : State → State → Prop := Relation.ReflTransGen (Write i)

/-- How an operation ends: a command with a response, an event with a verdict, another operation with its result, RESET
with nothing. -/
inductive Answer (i : Instr) : State → State → Prop where
  | response (st : Status) (n : Option Nat) (s : State) (hc : isCommand i = true) (he : isRxEvent i = false) :
      Answer i s (emit (.response st n) s)
  | verdict (v : Verdict) (s : State) (hc : isCommand i = false) (he : isRxEvent i = true) :
      Answer i s (emit (.verdict v) s)
  | result (r : UnitResult) (s : State) (hc : isCommand i = false) (he : isRxEvent i = false) :
      Answer i s (setResult r s)
  | silent (s : State) (hc : isCommand i = false) (he : isRxEvent i = false) : Answer i s s

/-- The operation `i` takes `s` to `t` by its writes and its answer. -/
def Does (i : Instr) (s t : State) : Prop := ∃ u, Writes i s u ∧ Answer i u t

/-! The rules as writes. -/

/-- A pure ACK, a SYN and a FIN+ACK are segment kinds (R90). -/
theorem segmentKind_nil {flags : Byte} (h : flags ∈ [0x02, 0x10, 0x11, (0x18 : Byte)]) : SegmentKind flags [] :=
  ⟨h, Nat.zero_le _, fun hne => absurd rfl hne⟩

theorem segmentKind_pshAck {P : Buffer} (h : P.length ≤ Config.maxPayload) : SegmentKind pshAckFlags P :=
  ⟨by decide, h, fun _ => rfl⟩

section
variable {i : Instr} {s t : State}

theorem Writes.sent_nil (w : Writes i s t) {flags : Byte} (kind : flags ∈ [0x02, 0x10, 0x11, (0x18 : Byte)])
    (live : t.ccb.state ≠ .closed) : Writes i s (sendSegment flags [] t).2 :=
  w.tail (.sent flags [] t fun _ => ⟨segmentKind_nil kind, live⟩)

theorem Writes.ruleSynAck (w : Writes i s t) (tcp : TCPHeader) (live : t.ccb.state ≠ .closed) :
    Writes i s (ruleSynAck tcp t).2 :=
  Writes.sent_nil (w.tail (.accepted tcp t live)) (by decide) (by simp)

theorem Writes.ruleData (w : Writes i s t) (P : Buffer) (live : t.ccb.state ≠ .closed) :
    Writes i s (ruleData P t).2 := by
  have acked : Writes i s (sendSegment ackFlags [] (advanceReceive P.length t)).2 :=
    Writes.sent_nil (w.tail (.advanced P.length t)) (by decide) live
  unfold Machine.ruleData
  dsimp only
  split
  · exact acked.tail (.delivered P _)
  · exact acked

theorem Writes.ruleFin (w : Writes i s t) (live : t.ccb.state ≠ .closed) : Writes i s (ruleFin t).2 := by
  have acked : Writes i s (sendSegment ackFlags [] (setTcpState .closeWait (advanceReceive 1 t))).2 :=
    Writes.sent_nil ((w.tail (.advanced 1 t)).tail (.moved .closeWait _ fun h => absurd h live)) (by decide) (by simp)
  have finished := Writes.sent_nil (flags := finAckFlags) acked (by decide) (by simp)
  unfold Machine.ruleFin
  dsimp only
  split
  · split
    · exact finished.tail (.moved .lastAck _ (by simp))
    · exact finished
  · exact acked

theorem Writes.handleEstablished (w : Writes i s t) (tcp : TCPHeader) (P : Buffer) (live : t.ccb.state ≠ .closed) :
    Writes i s (handleEstablished tcp P t).2 := by
  obtain ⟨_, _, e⟩ | ⟨_, _, _, e⟩ | ⟨_, _, _, e⟩ | ⟨_, _, e⟩ | ⟨_, _, e⟩ := handleEstablished_cases tcp P t
  · exact e ▸ w.ruleData P live
  · exact e ▸ (w.ruleData P live).ruleFin (by rwa [ruleData_state])
  · exact e ▸ w.ruleData P live
  · exact e ▸ w.ruleFin live
  · exact e ▸ w

theorem Writes.handleSegment (w : Writes i s t) (tcp : TCPHeader) (P : Buffer) :
    Writes i s (handleSegment tcp P t).2 := by
  obtain ⟨hs, _, e⟩ | ⟨hs, e⟩ | ⟨hs, _, e⟩ | e := handleSegment_cases tcp P t
  · exact e ▸ w.ruleSynAck tcp (by simp [hs])
  · exact e ▸ w.handleEstablished tcp P (by simp [hs])
  · exact e ▸ w.tail (.moved .closed t fun _ => rfl)
  · exact e ▸ w

theorem Writes.endLoopIfTerminal (w : Writes i s u) : Writes i s (endLoopIfTerminal u) := by
  unfold Machine.endLoopIfTerminal
  split
  · exact w.tail (.switched false u)
  · exact w

end

/-! The operations, family by family. -/

section
variable {c : Prop} [Decidable c] {a t : State}

/-- A guarded operation answers only inside its guard. -/
theorem of_guarded_refused {r : Refusal} (h : (if c then .next a else .refused r : Host.Outcome State Fault Refusal) =
    .next t) : c ∧ t = a := by
  split at h
  · cases h
    exact ⟨‹c›, rfl⟩
  · cases h

theorem of_guarded_fault {r : Fault} (h : (if c then .next a else .fault r : Host.Outcome State Fault Refusal) =
    .next t) : c ∧ t = a := by
  split at h
  · cases h
    exact ⟨‹c›, rfl⟩
  · cases h

end

/-- The checksum unit, the codec and the filter leave their result and nothing else. -/
theorem exec_pureUnit {i : Instr} {s t : State} (pure : isPureUnit i = true) (h : exec i s = .next t) :
    ∃ r, t = setResult r s := by
  cases i with
  | packIpv4 | packTcp | ocsum | csum | csumok | decDgram | filterIp | filterPort =>
    cases h
    exact ⟨_, rfl⟩
  | decIpv4 | decTcp => exact ⟨_, (of_guarded_fault h).2⟩
  | encIpv4 | encTcp | pseudo | tcpcsum => exact ⟨_, (of_guarded_refused h).2⟩
  | _ => cases pure

/-- Settles O52: a unit that answers has left its result. -/
theorem pureUnitsWriteOnlyTheirResult : Obligations.PureUnitsWriteOnlyTheirResult := by
  unfold Obligations.PureUnitsWriteOnlyTheirResult
  exact fun i s t pure h => exec_pureUnit pure h

/-! The host commands. -/

section
variable {i : Instr} {s u : State} (hc : isCommand i = true) (he : isRxEvent i = false)
include hc he

/-- A command that ends with a response. -/
theorem Writes.responds (w : Writes i s u) (st : Status) (n : Option Nat) : Does i s (emit (.response st n) u) :=
  ⟨u, w, .response st n u hc he⟩

theorem Writes.sendSyn (w : Writes i s u) (live : u.ccb.state ≠ .closed) : Does i s (sendSyn u) := by
  have sent := w.sent_nil (flags := synFlags) (by decide) live
  unfold Machine.sendSyn
  dsimp only
  split
  · exact Writes.responds hc he sent .ok none
  · exact Writes.responds hc he (sent.tail (.moved .closed _ fun _ => rfl)) .sendFailed none

theorem does_sendData (data : Buffer) (live : s.ccb.state ≠ .closed) : Does i s (sendData data s) := by
  unfold sendData
  split
  · next short =>
    have sent : Writes i s (sendSegment pshAckFlags data s).2 :=
      .single (.sent pshAckFlags data s fun _ => ⟨segmentKind_pshAck short, live⟩)
    dsimp only
    split
    · exact Writes.responds hc he sent .ok (some data.length)
    · exact Writes.responds hc he sent .sendFailed none
  · exact Writes.responds hc he .refl .payloadTooLong none

theorem does_closeActive (live : s.ccb.state ≠ .closed) : Does i s (closeActive s) := by
  have sent := Writes.sent_nil (i := i) (.refl (a := s)) (flags := finAckFlags) (by decide) live
  unfold closeActive
  dsimp only
  split
  · exact Writes.responds hc he ((sent.tail (.moved .finWait1 _ (by simp [live]))).tail (.switched true _)) .ok none
  · exact Writes.responds hc he sent .sendFailed none

theorem does_closeByRelease : Does i s (closeByRelease s) :=
  Writes.responds hc he ((Relation.ReflTransGen.single (.moved .closed s fun _ => rfl)).tail (.switched false _))
    .ok none

theorem does_close : Does i s (if s.ccb.state = .established then closeActive s else closeByRelease s) := by
  split
  · next hs => exact does_closeActive hc he (by simp [hs])
  · exact does_closeByRelease hc he

end

/-- The opcode 0x03, whichever row it is read as (R253, R254; log 8). -/
theorem exec_close {i : Instr} (h : isClose i) (s : State) :
    exec i s = .next (if s.ccb.state = .established then closeActive s else closeByRelease s) := by
  obtain rfl | rfl := h
  · rfl
  · exact congrArg _ (ite_not _ _ _)

/-- Settles O44: both rows ask for the state and do the same with the answer. -/
theorem closeRowsAreOneCommand : Obligations.CloseRowsAreOneCommand := by
  unfold Obligations.CloseRowsAreOneCommand
  intro s
  rw [exec_close (.inl rfl), exec_close (.inr rfl)]

theorem does_openConnection (addr : U32) (port : U16) (s : State) :
    Does (.connect addr port) s (openConnection addr port s) := by
  have drawn : Writes (.connect addr port) s (drawConnect s).2 := .single (.drawn s)
  unfold openConnection
  dsimp only
  split
  · exact Writes.sendSyn rfl rfl (drawn.tail (.opened _ addr port _ rfl)) nofun
  · exact Writes.responds rfl rfl drawn .transportUnavailable none

/-- Every command answers a next state, by its writes and one response. -/
theorem does_command {i : Instr} {s t : State} (hc : isCommand i = true) (h : exec i s = .next t) : Does i s t := by
  cases i with
  | connect addr port =>
    by_cases hs : s.ccb.state = .closed
    · cases (exec_connect_of_closed hs).symm.trans h
      exact does_openConnection addr port s
    · cases (exec_connect_of_ne_closed hs).symm.trans h
      exact Writes.responds rfl rfl .refl .busy none
  | send data =>
    by_cases hs : s.ccb.state = .established
    · cases (exec_send_of_established data hs).symm.trans h
      exact does_sendData rfl rfl data (by simp [hs])
    · cases (exec_send_of_ne_established data hs).symm.trans h
      exact Writes.responds rfl rfl .refl .notConnected none
  | closeEstablished =>
    cases (exec_close (.inl rfl) s).symm.trans h
    exact does_close rfl rfl
  | closeRelease =>
    cases (exec_close (.inr rfl) s).symm.trans h
    exact does_close rfl rfl
  | run =>
    cases h
    split
    · exact Writes.responds rfl rfl .refl .ok none
    · exact Writes.responds rfl rfl (.single (.switched true s)) .ok none
  | cmdReserved opcode =>
    cases h
    exact Writes.responds rfl rfl .refl .badCommand none
  | _ => cases hc

/-! The RX events. -/

section
variable {i : Instr} {s u : State} (hc : isCommand i = false) (he : isRxEvent i = true)
include hc he

/-- An event that ends with a verdict. -/
theorem Writes.judged (w : Writes i s u) (v : Verdict) : Does i s (giveVerdict v u) := ⟨u, w, .verdict v u hc he⟩

theorem does_receiveDatagram (B : Buffer) : Does i s (receiveDatagram B s) := by
  unfold receiveDatagram
  split
  · exact Writes.judged hc he .refl _
  · next tcp P _ =>
    have handled : Writes i s (handleSegment tcp P s).2 := Writes.handleSegment .refl tcp P
    unfold finishSegment
    refine Writes.judged hc he (Writes.endLoopIfTerminal ?_) _
    split
    · exact handled.tail (.switched false _)
    · exact handled

end

/-- An event that has a step ends with one verdict. -/
theorem does_rxEvent {i : Instr} {s t : State} (he : isRxEvent i = true) (h : exec i s = .next t) : Does i s t := by
  cases i with
  | rxDatagram B =>
    obtain rfl := (of_guarded_refused h).2
    exact does_receiveDatagram rfl rfl B
  | rxTimeout =>
    obtain rfl := (of_guarded_refused h).2
    exact Writes.judged rfl rfl .refl .timeout
  | rxError =>
    obtain rfl := (of_guarded_refused h).2
    exact Writes.judged rfl rfl (.single (.switched false s)) .recvFailed
  | _ => cases he

/-! The other operations. -/

section
variable {i : Instr} {s u : State} (hc : isCommand i = false) (he : isRxEvent i = false)
include hc he

theorem Writes.leaves (w : Writes i s u) (r : UnitResult) : Does i s (setResult r u) := ⟨u, w, .result r u hc he⟩

/-- A segment sent by itself is bound to no kind and no state (log 12). -/
theorem does_sendAlone (flags : Byte) (P : Buffer) : Does i s (sendAlone flags P s) :=
  Writes.leaves hc he (.single (.sent flags P s fun issued => by simp [Issued, hc, he] at issued)) _

/-- A rule behind a test, executed by itself. -/
theorem does_outcomeAlone {test : Bool} {rule : HandleOutcome × State} (w : test = true → Writes i s rule.2) :
    Does i s (outcomeAlone (if test then rule else ruleIgnore s)) := by
  split
  · next ht => exact Writes.leaves hc he (w ht) _
  · exact Writes.leaves hc he .refl _

end

/-- The state part of a receive class's test. -/
theorem state_of_test {s : State} {st : TcpState} {test : Bool}
    (ht : (decide (s.ccb.state = st) && test) = true) : s.ccb.state = st :=
  of_decide_eq_true (Bool.and_eq_true_iff.mp ht).1

/-- The units, the segment kinds, the receive classes, HANDLE and RESET. -/
theorem does_other {i : Instr} {s t : State} (hc : isCommand i = false) (he : isRxEvent i = false)
    (h : exec i s = .next t) : Does i s t := by
  by_cases pure : isPureUnit i = true
  · obtain ⟨r, rfl⟩ := exec_pureUnit pure h
    exact Writes.leaves hc he .refl r
  cases i with
  | txSyn | txAck | txFinack =>
    cases h
    exact does_sendAlone rfl rfl _ _
  | txPshack | sendseg =>
    obtain rfl := (of_guarded_refused h).2
    exact does_sendAlone rfl rfl _ _
  | rxSynsentSynack tcp P =>
    cases h
    exact does_outcomeAlone rfl rfl fun ht => Writes.ruleSynAck .refl tcp (by simp [state_of_test ht])
  | rxEstData tcp P =>
    cases h
    exact does_outcomeAlone rfl rfl fun ht => Writes.ruleData .refl P (by simp [state_of_test ht])
  | rxEstFin tcp P =>
    cases h
    exact does_outcomeAlone rfl rfl fun ht => Writes.ruleFin .refl (by simp [state_of_test ht])
  | rxLastackAck tcp P =>
    cases h
    exact does_outcomeAlone rfl rfl fun _ => .single (.moved .closed s fun _ => rfl)
  | rxIgnore tcp P =>
    cases h
    exact Writes.leaves rfl rfl .refl _
  | handle tcp P =>
    cases h
    exact Writes.leaves rfl rfl (Writes.handleSegment .refl tcp P) _
  | reset =>
    cases h
    exact ⟨_, (Relation.ReflTransGen.single (.zeroed s rfl)).tail (.switched false _), .silent _ rfl rfl⟩
  | connect | send | closeEstablished | closeRelease | run | cmdReserved => cases hc
  | rxDatagram | rxTimeout | rxError => cases he
  | _ => exact absurd rfl pure

/-- Inversion of exec: what answers a next state did so by its writes and its one answer. -/
theorem exec_does {i : Instr} {s t : State} (h : exec i s = .next t) : Does i s t := by
  by_cases hc : isCommand i = true
  · exact does_command hc h
  · by_cases he : isRxEvent i = true
    · exact does_rxEvent he h
    · exact does_other (Bool.eq_false_iff.mpr hc) (Bool.eq_false_iff.mpr he) h

end Sys2Proof.Proofs
end

section
/-! What every operation keeps (spec 10_state.md R22, R26, R29; 20_memory.md R72): each fact said once for a single
write and once for an answer. -/

namespace Sys2Proof.Proofs

open Sys2Proof.Machine Sys2Proof.Laws Sys2Proof.Safety

/-! From single writes to whole operations. -/

section
variable {i : Instr} {s t : State}

theorem Writes.keeps {P : State → Prop} (w : Writes i s t) (keep : ∀ u v, Write i u v → P u → P v) (hs : P s) :
    P t := by
  induction w with
  | refl => exact hs
  | tail _ write ih => exact keep _ _ write ih

theorem Writes.keeps_eq {α : Type} {f : State → α} (w : Writes i s t) (keep : ∀ u v, Write i u v → f v = f u) :
    f t = f s :=
  Writes.keeps (P := fun u => f u = f s) w (fun u v write hu => (keep u v write).trans hu) rfl

/-! An answer writes the outputs or the result, nothing else. -/

theorem Answer.ccb (a : Answer i s t) : t.ccb = s.ccb := by cases a <;> rfl

theorem Answer.params (a : Answer i s t) : t.params = s.params := by cases a <;> rfl

theorem Answer.rxPort (a : Answer i s t) : t.rxPort = s.rxPort := by cases a <;> rfl

theorem Answer.datagrams (a : Answer i s t) (D : Buffer) : OutEvent.tx D ∈ t.outputs ↔ OutEvent.tx D ∈ s.outputs := by
  cases a <;> simp

end

/-! The OPEN parameters, the RX port, the 4-tuple. -/

theorem Write.params {i : Instr} {s t : State} (w : Write i s t) : t.params = s.params := by
  cases w <;> simp

theorem exec_params {i : Instr} {s t : State} (h : exec i s = .next t) : t.params = s.params := by
  obtain ⟨u, w, a⟩ := exec_does h
  exact a.params.trans (Writes.keeps_eq w fun _ _ => Write.params)

theorem Write.rxPort {i : Instr} {s t : State} (w : Write i s t) : t.rxPort = s.rxPort := by
  cases w with
  | accepted => rfl
  | _ => simp

theorem exec_rxPort {i : Instr} {s t : State} (h : exec i s = .next t) : t.rxPort = s.rxPort := by
  obtain ⟨u, w, a⟩ := exec_does h
  exact a.rxPort.trans (Writes.keeps_eq w fun _ _ => Write.rxPort)

/-- The flow key of R22. -/
def fourTuple (c : Ccb) : U32 × U16 × U32 × U16 := (c.localAddr, c.localPort, c.remoteAddr, c.remotePort)

section
variable {i : Instr} (notConnect : ∀ addr port, i ≠ .connect addr port) (notReset : i ≠ .reset)
include notConnect notReset

theorem Write.fourTuple {s t : State} (w : Write i s t) : fourTuple t.ccb = fourTuple s.ccb := by
  cases w with
  | opened x addr port _ h => exact absurd h (notConnect addr port)
  | zeroed _ h => exact absurd h notReset
  | sent flags P => rw [sendSegment_ccb]; rfl
  | drawn => rw [drawConnect_ccb]
  | _ => rfl

theorem exec_fourTuple {s t : State} (h : exec i s = .next t) : fourTuple t.ccb = fourTuple s.ccb := by
  obtain ⟨u, w, a⟩ := exec_does h
  rw [a.ccb]
  exact Writes.keeps_eq (f := fun u => Proofs.fourTuple u.ccb) w fun _ _ => Write.fourTuple notConnect notReset

end

/-- Settles O48: no single write but those of CONNECT and RESET touches the flow key. -/
theorem fourTupleIsConstant : Obligations.FourTupleIsConstant := by
  unfold Obligations.FourTupleIsConstant
  intro i s t h notConnect notReset
  simpa [fourTuple] using exec_fourTuple notConnect notReset h

/-! The counters, windows and widths. -/

theorem Write.countersTogether {i : Instr} {s t : State} (w : Write i s t) (hs : CountersTogether s) :
    CountersTogether t := by
  unfold CountersTogether at *
  cases w with
  | sent flags P => rw [sendSegment_ccb]; exact hs
  | advanced n => simp [hs]
  | drawn => rwa [drawConnect_ccb]
  | opened | zeroed | accepted => rfl
  | moved | delivered | switched => exact hs

theorem exec_countersTogether {i : Instr} {s t : State} (h : exec i s = .next t) (hs : CountersTogether s) :
    CountersTogether t := by
  obtain ⟨u, w, a⟩ := exec_does h
  have hu := Writes.keeps w (fun _ _ => Write.countersTogether) hs
  rwa [CountersTogether, a.ccb]

theorem Write.windowsSound {i : Instr} {s t : State} (w : Write i s t) (hs : WindowsSound s) : WindowsSound t := by
  obtain ⟨zeroWindow, zeroCount, window, live⟩ := hs
  cases w with
  | sent flags P => unfold WindowsSound; rw [sendSegment_ccb]; exact ⟨zeroWindow, zeroCount, window, live⟩
  | drawn => unfold WindowsSound; rw [drawConnect_ccb]; exact ⟨zeroWindow, zeroCount, window, live⟩
  | opened => exact ⟨rfl, rfl, .inr rfl, fun _ => rfl⟩
  | zeroed => exact ⟨rfl, rfl, .inl rfl, fun h => absurd rfl h⟩
  | moved st _ h => exact ⟨zeroWindow, zeroCount, window, fun hst => live fun hs => hst (h hs)⟩
  | accepted _ _ h => exact ⟨zeroWindow, zeroCount, window, fun _ => live h⟩
  | advanced | delivered | switched => exact ⟨zeroWindow, zeroCount, window, live⟩

theorem exec_windowsSound {i : Instr} {s t : State} (h : exec i s = .next t) (hs : WindowsSound s) :
    WindowsSound t := by
  obtain ⟨u, w, a⟩ := exec_does h
  have hu := Writes.keeps w (fun _ _ => Write.windowsSound) hs
  rwa [WindowsSound, a.ccb]

theorem Write.widthsSound {i : Instr} {s t : State} (w : Write i s t) (hs : WidthsSound s) : WidthsSound t := by
  obtain ⟨time, count⟩ := hs
  unfold WidthsSound
  rw [w.params]
  cases w with
  | sent flags P =>
    refine ⟨sendSegment_lastSent_lt flags P s time, ?_⟩
    rw [sendSegment_ccb]
    exact count
  | drawn => rw [drawConnect_ccb]; exact ⟨time, count⟩
  | opened | zeroed => exact ⟨Nat.two_pow_pos _, Nat.two_pow_pos _⟩
  | moved | accepted | advanced | delivered | switched => exact ⟨time, count⟩

theorem exec_widthsSound {i : Instr} {s t : State} (h : exec i s = .next t) (hs : WidthsSound s) : WidthsSound t := by
  obtain ⟨u, w, a⟩ := exec_does h
  have hu := Writes.keeps w (fun _ _ => Write.widthsSound) hs
  rwa [WidthsSound, a.ccb, a.params]

/-! The datagrams put out. -/

/-- R128, R206: what a command or an event sends is sound, since the block it is sent from is not closed. -/
theorem Write.outputsSound {i : Instr} (issued : Issued i) {s t : State} (w : Write i s t)
    (hs : WindowsSound s ∧ OutputsSound s) : WindowsSound t ∧ OutputsSound t := by
  refine ⟨w.windowsSound hs.1, fun D => ?_⟩
  obtain ⟨⟨_, _, _, live⟩, sound⟩ := hs
  cases w with
  | sent flags P _ h =>
    obtain ⟨kind, open_⟩ := h issued
    rw [sendSegment_outputs, List.mem_append]
    rintro (old | new)
    · exact sound D old
    · obtain ⟨_, hD⟩ := List.mem_ite_nil_right.mp new
      cases List.mem_singleton.mp hD
      exact soundDatagram_datagramOf _ (live open_) kind
  | drawn => rw [drawConnect_outputs]; exact sound D
  | delivered => simpa using sound D
  | opened | zeroed | moved | accepted | advanced | switched => exact sound D

theorem exec_outputsSound {i : Instr} (issued : Issued i) {s t : State} (h : exec i s = .next t)
    (hw : WindowsSound s) (hs : OutputsSound s) : OutputsSound t := by
  obtain ⟨u, w, a⟩ := exec_does h
  obtain ⟨_, hu⟩ := Writes.keeps w (fun _ _ => Write.outputsSound issued) ⟨hw, hs⟩
  exact fun D hD => hu D ((a.datagrams D).mp hD)

/-! What is put out: only appended, no answer among the writes, `send_seq` moved by its sequence space. -/

/-- Neither a response nor a verdict. -/
def Quiet (e : OutEvent) : Prop := isResponse e = false ∧ isVerdict e = false

/-- The operations under which `send_seq` only counts: all but the two that write it outright (R26). -/
def Counted (i : Instr) : Prop := (∀ addr port, i ≠ .connect addr port) ∧ i ≠ .reset

/-- From `s` to `t` only datagrams and deliveries are put out, and where `i` is one that counts, `send_seq` moves by
their sequence space (R204). -/
def Puts (i : Instr) (s t : State) : Prop :=
  ∃ new, t.outputs = s.outputs ++ new ∧ (∀ e ∈ new, Quiet e) ∧
    (Counted i → t.ccb.sendSeq = s.ccb.sendSeq + BitVec.ofNat 32 (outputSpace new))

theorem outputSpace_append (a b : List OutEvent) : outputSpace (a ++ b) = outputSpace a + outputSpace b := by
  induction a using outputSpace.induct with
  | case1 => simp [outputSpace]
  | case2 D rest ih => simp only [List.cons_append, outputSpace, ih, Nat.add_assoc]
  | _ => simp only [List.cons_append, outputSpace, *]

/-- A datagram shows in its bytes the sequence space SENDSEG counts for it. -/
theorem datagramSpace_datagramOf (c : Ccb) (ipId : U16) (flags : Byte) (P : Buffer) :
    datagramSpace (datagramOf c ipId flags P) = sequenceSpace flags P.length := by
  rw [datagramSpace, byteAt_flags_datagramOf, datagramOf_length, Nat.add_sub_cancel_left]

section
variable {i : Instr} {s t u : State}

theorem puts_nothing (outputs : t.outputs = s.outputs) (count : Counted i → t.ccb.sendSeq = s.ccb.sendSeq) :
    Puts i s t :=
  ⟨[], outputs.trans (List.append_nil _).symm, nofun, fun h => (count h).trans (BitVec.add_zero _).symm⟩

theorem Puts.trans (first : Puts i s t) (second : Puts i t u) : Puts i s u := by
  obtain ⟨a, ha, quietA, countA⟩ := first
  obtain ⟨b, hb, quietB, countB⟩ := second
  refine ⟨a ++ b, by rw [hb, ha, List.append_assoc], fun e he => ?_, fun h => ?_⟩
  · exact (List.mem_append.mp he).elim (quietA e) (quietB e)
  · rw [countB h, countA h, outputSpace_append, BitVec.ofNat_add, BitVec.add_assoc]

theorem puts_sendSegment (flags : Byte) (P : Buffer) (s : State) : Puts i s (sendSegment flags P s).2 := by
  obtain ⟨_, e⟩ | ⟨_, e⟩ := sendSegment_cases flags P s
  · refine ⟨[.tx (datagramOf s.ccb (drawTransmit s).1.ipId flags P)], by simp [e], fun _ h => ?_, fun _ => ?_⟩
    · cases List.mem_singleton.mp h
      exact ⟨rfl, rfl⟩
    · simp [e, outputSpace, datagramSpace_datagramOf, seqAdd_eq]
  · exact puts_nothing (by simp [e]) fun _ => by simp [e]

theorem Write.puts (w : Write i s t) : Puts i s t := by
  cases w with
  | sent flags P => exact puts_sendSegment flags P s
  | delivered P =>
    refine ⟨[.sink P], rfl, fun _ h => ?_, fun _ => (BitVec.add_zero _).symm⟩
    cases List.mem_singleton.mp h
    exact ⟨rfl, rfl⟩
  | drawn => exact puts_nothing (drawConnect_outputs s) fun _ => by rw [drawConnect_ccb]
  | opened x addr port _ h => exact puts_nothing rfl fun counted => absurd h (counted.1 addr port)
  | zeroed _ h => exact puts_nothing rfl fun counted => absurd h counted.2
  | moved | accepted | advanced | switched => exact puts_nothing rfl fun _ => rfl

theorem Writes.puts (w : Writes i s t) : Puts i s t :=
  Writes.keeps (P := Puts i s) w (fun _ _ write puts => puts.trans write.puts) (puts_nothing rfl fun _ => rfl)

end

/-- Settles O47: the writes put out no answer, and the operation ends with the one it has. -/
theorem oneAnswerPerStep : Obligations.OneAnswerPerStep := by
  unfold Obligations.OneAnswerPerStep
  intro i s t h
  obtain ⟨u, w, a⟩ := exec_does h
  obtain ⟨before, hu, quiet, _⟩ := Writes.puts w
  cases a with
  | response st n _ hc he =>
    refine ⟨before ++ [.response st n], by simp [hu], fun _ => ⟨before, st, n, rfl, quiet⟩, fun h => ?_, fun h => ?_⟩
    · cases he.symm.trans h
    · cases hc.symm.trans h
  | verdict v _ hc he =>
    refine ⟨before ++ [.verdict v], by simp [hu], fun h => ?_, fun _ => ⟨before, v, rfl, quiet⟩, fun _ h => ?_⟩
    · cases hc.symm.trans h
    · cases he.symm.trans h
  | result _ _ hc he | silent _ hc he =>
    refine ⟨before, hu, fun h => ?_, fun h => ?_, fun _ _ => quiet⟩
    · cases hc.symm.trans h
    · cases he.symm.trans h

/-- An answer takes no sequence space. -/
theorem Answer.puts_space {i : Instr} {s t : State} (a : Answer i s t) :
    ∃ new, t.outputs = s.outputs ++ new ∧ outputSpace new = 0 := by
  cases a with
  | response st n => exact ⟨[.response st n], rfl, rfl⟩
  | verdict v => exact ⟨[.verdict v], rfl, rfl⟩
  | result | silent => exact ⟨[], (List.append_nil _).symm, rfl⟩

/-- Settles O51: the writes count, the answer takes no sequence space. -/
theorem sendSeqCountsTheDatagrams : Obligations.SendSeqCountsTheDatagrams := by
  unfold Obligations.SendSeqCountsTheDatagrams
  intro i s t h notConnect notReset
  obtain ⟨u, w, a⟩ := exec_does h
  obtain ⟨sent, hu, _, count⟩ := Writes.puts w
  obtain ⟨answer, ht, none⟩ := a.puts_space
  refine ⟨sent ++ answer, by rw [ht, hu, List.append_assoc], ?_⟩
  rw [a.ccb, count ⟨notConnect, notReset⟩, outputSpace_append, none, Nat.add_zero]

end Sys2Proof.Proofs
end

section
/-! The protocol state and `run_en` under each operation (spec 10_state.md R24, R25, R30). -/

namespace Sys2Proof.Proofs

open Sys2Proof.Machine Sys2Proof.Laws Sys2Proof.Safety

/-! Where the commands leave the state. -/

theorem sendSyn_state (s : State) : (sendSyn s).ccb.state = s.ccb.state ∨ (sendSyn s).ccb.state = .closed := by
  unfold sendSyn
  dsimp only
  split <;> simp

theorem openConnection_state (addr : U32) (port : U16) {s : State} (hs : s.ccb.state = .closed) :
    (openConnection addr port s).ccb.state = .synSent ∨ (openConnection addr port s).ccb.state = .closed := by
  unfold openConnection
  dsimp only
  split
  · exact sendSyn_state _
  · simp [hs]

theorem sendData_state (data : Buffer) (s : State) : (sendData data s).ccb.state = s.ccb.state := by
  unfold sendData
  dsimp only
  split
  · split <;> simp
  · simp

theorem closeActive_state (s : State) :
    (closeActive s).ccb.state = .finWait1 ∨ (closeActive s).ccb.state = s.ccb.state := by
  unfold closeActive
  dsimp only
  split <;> simp

/-! Where HANDLE leaves the state. -/

theorem ruleSynAck_state (tcp : TCPHeader) (s : State) : (ruleSynAck tcp s).2.ccb.state = .established := by
  simp [ruleSynAck]

theorem ruleFin_state (s : State) : (ruleFin s).2.ccb.state = .closeWait ∨ (ruleFin s).2.ccb.state = .lastAck := by
  unfold ruleFin
  dsimp only
  split
  · split <;> simp
  · simp

/-- The arrows a received segment can take (R24). -/
def SegmentArrow (a b : TcpState) : Prop :=
  b = a ∨ (a = .synSent ∧ b = .established) ∨ (a = .established ∧ (b = .closeWait ∨ b = .lastAck)) ∨
    (a = .lastAck ∧ b = .closed)

theorem handleEstablished_state (tcp : TCPHeader) (P : Buffer) (s : State) :
    (handleEstablished tcp P s).2.ccb.state = s.ccb.state ∨ (handleEstablished tcp P s).2.ccb.state = .closeWait ∨
      (handleEstablished tcp P s).2.ccb.state = .lastAck := by
  obtain ⟨_, _, e⟩ | ⟨_, _, _, e⟩ | ⟨_, _, _, e⟩ | ⟨_, _, e⟩ | ⟨_, _, e⟩ := handleEstablished_cases tcp P s
  · exact .inl (e ▸ ruleData_state P s)
  · exact .inr (e ▸ ruleFin_state _)
  · exact .inl (e ▸ ruleData_state P s)
  · exact .inr (e ▸ ruleFin_state s)
  · exact .inl (e ▸ rfl)

theorem handleSegment_state (tcp : TCPHeader) (P : Buffer) (s : State) :
    SegmentArrow s.ccb.state (handleSegment tcp P s).2.ccb.state := by
  obtain ⟨hs, _, e⟩ | ⟨hs, e⟩ | ⟨hs, _, e⟩ | e := handleSegment_cases tcp P s
  · exact .inr (.inl ⟨hs, e ▸ ruleSynAck_state tcp s⟩)
  · obtain same | moved := e ▸ handleEstablished_state tcp P s
    · exact .inl same
    · exact .inr (.inr (.inl ⟨hs, moved⟩))
  · exact .inr (.inr (.inr ⟨hs, e ▸ rfl⟩))
  · exact .inl (e ▸ rfl)

theorem receiveDatagram_state (B : Buffer) (s : State) : SegmentArrow s.ccb.state (receiveDatagram B s).ccb.state := by
  unfold receiveDatagram
  split
  · exact .inl rfl
  · rw [finishSegment_eq]
    exact handleSegment_state _ _ s

/-! The table of transitions (R24). -/

section
variable {i : Instr} {a b : TcpState}

theorem transition_opens (ha : a = .closed) (hb : b = .synSent) (hi : ∃ addr port, i = .connect addr port) :
    Transition i a b := .inr (.inl ⟨ha, hb, hi⟩)

theorem transition_establishes (ha : a = .synSent) (hb : b = .established)
    (hi : isReception i ∨ ∃ tcp P, i = .rxSynsentSynack tcp P) : Transition i a b :=
  .inr (.inr (.inl ⟨ha, hb, hi⟩))

theorem transition_answersFin (ha : a = .established) (hb : b = .closeWait ∨ b = .lastAck)
    (hi : isReception i ∨ ∃ tcp P, i = .rxEstFin tcp P) : Transition i a b :=
  .inr (.inr (.inr (.inl ⟨ha, hb, hi⟩)))

theorem transition_lastAck (ha : a = .lastAck) (hb : b = .closed)
    (hi : isReception i ∨ ∃ tcp P, i = .rxLastackAck tcp P) : Transition i a b :=
  .inr (.inr (.inr (.inr (.inl ⟨ha, hb, hi⟩))))

theorem transition_closeActive (ha : a = .established) (hb : b = .finWait1) (hi : isClose i) : Transition i a b :=
  .inr (.inr (.inr (.inr (.inr (.inl ⟨ha, hb, hi⟩)))))

theorem transition_release (ha : a ≠ .established) (hb : b = .closed) (hi : isClose i) : Transition i a b :=
  .inr (.inr (.inr (.inr (.inr (.inr (.inl ⟨ha, hb, hi⟩))))))

theorem transition_reset (hb : b = .closed) (hi : i = .reset) : Transition i a b :=
  .inr (.inr (.inr (.inr (.inr (.inr (.inr ⟨hb, hi⟩))))))

end

theorem transition_of_segmentArrow {i : Instr} {a b : TcpState} (h : isReception i) (arrow : SegmentArrow a b) :
    Transition i a b := by
  obtain same | ⟨ha, hb⟩ | ⟨ha, hb⟩ | ⟨ha, hb⟩ := arrow
  · exact .inl same
  · exact transition_establishes ha hb (.inl h)
  · exact transition_answersFin ha hb (.inl h)
  · exact transition_lastAck ha hb (.inl h)

theorem transition_close {i : Instr} (h : isClose i) (s : State) :
    Transition i s.ccb.state
      (if s.ccb.state = .established then closeActive s else closeByRelease s).ccb.state := by
  split
  · next hs =>
    obtain moved | same := closeActive_state s
    · exact transition_closeActive hs moved h
    · exact .inl same
  · next hs => exact transition_release hs rfl h

theorem transition_exec {i : Instr} {s t : State} (h : exec i s = .next t) : Transition i s.ccb.state t.ccb.state := by
  by_cases pure : isPureUnit i = true
  · obtain ⟨r, rfl⟩ := exec_pureUnit pure h
    exact .inl rfl
  cases i with
  | connect addr port =>
    by_cases hs : s.ccb.state = .closed
    · cases (exec_connect_of_closed hs).symm.trans h
      obtain opened | closed := openConnection_state addr port hs
      · exact transition_opens hs opened ⟨addr, port, rfl⟩
      · exact .inl (closed.trans hs.symm)
    · cases (exec_connect_of_ne_closed hs).symm.trans h
      exact .inl rfl
  | send data =>
    by_cases hs : s.ccb.state = .established
    · cases (exec_send_of_established data hs).symm.trans h
      exact .inl (sendData_state data s)
    · cases (exec_send_of_ne_established data hs).symm.trans h
      exact .inl rfl
  | closeEstablished =>
    cases (exec_close (.inl rfl) s).symm.trans h
    exact transition_close (.inl rfl) s
  | closeRelease =>
    cases (exec_close (.inr rfl) s).symm.trans h
    exact transition_close (.inr rfl) s
  | run =>
    cases h
    exact .inl (by split <;> rfl)
  | cmdReserved | rxIgnore =>
    cases h
    exact .inl rfl
  | txSyn | txAck | txFinack =>
    cases h
    exact .inl (sendSegment_state _ _ s)
  | txPshack | sendseg =>
    obtain rfl := (of_guarded_refused h).2
    exact .inl (sendSegment_state _ _ s)
  | rxSynsentSynack tcp P =>
    cases h
    split
    · next ht => exact transition_establishes (state_of_test ht) (ruleSynAck_state tcp s) (.inr ⟨tcp, P, rfl⟩)
    · exact .inl rfl
  | rxEstData tcp P =>
    cases h
    split
    · exact .inl (ruleData_state P s)
    · exact .inl rfl
  | rxEstFin tcp P =>
    cases h
    split
    · next ht => exact transition_answersFin (state_of_test ht) (ruleFin_state s) (.inr ⟨tcp, P, rfl⟩)
    · exact .inl rfl
  | rxLastackAck tcp P =>
    cases h
    split
    · next ht => exact transition_lastAck (state_of_test ht) rfl (.inr ⟨tcp, P, rfl⟩)
    · exact .inl rfl
  | handle tcp P =>
    cases h
    exact transition_of_segmentArrow (.inr ⟨tcp, P, rfl⟩) (handleSegment_state tcp P s)
  | rxDatagram B =>
    obtain rfl := (of_guarded_refused h).2
    exact transition_of_segmentArrow (.inl ⟨B, rfl⟩) (receiveDatagram_state B s)
  | rxTimeout | rxError =>
    obtain rfl := (of_guarded_refused h).2
    exact .inl rfl
  | reset =>
    cases h
    exact transition_reset rfl rfl
  | _ => exact absurd rfl pure

/-- Settles O49, operation by operation. -/
theorem stateMovesAlongTheTable : Obligations.StateMovesAlongTheTable := by
  unfold Obligations.StateMovesAlongTheTable
  exact fun i s t h => transition_exec h

/-- Settles O50: of the arrows of R24, those from a dead end are CLOSE's and RESET's. -/
theorem deadEndsNeedCloseOrReset : Obligations.DeadEndsNeedCloseOrReset := by
  unfold Obligations.DeadEndsNeedCloseOrReset
  intro i s t dead h
  have live : s.ccb.state ≠ .closed ∧ s.ccb.state ≠ .synSent ∧ s.ccb.state ≠ .established ∧ s.ccb.state ≠ .lastAck := by
    have all : ∀ st ∈ DeadEnds, st ≠ .closed ∧ st ≠ .synSent ∧ st ≠ .established ∧ st ≠ .lastAck := by decide
    exact all _ dead
  obtain ⟨notClosed, notSynSent, notEstablished, notLastAck⟩ := live
  obtain same | ⟨hs, _⟩ | ⟨hs, _⟩ | ⟨hs, _⟩ | ⟨hs, _⟩ | ⟨hs, _⟩ | ⟨_, ht, close⟩ | ⟨ht, reset⟩ := transition_exec h
  · exact .inl same
  · exact absurd hs notClosed
  · exact absurd hs notSynSent
  · exact absurd hs notEstablished
  · exact absurd hs notLastAck
  · exact absurd hs notEstablished
  · exact .inr ⟨.inl close, ht⟩
  · exact .inr ⟨.inr reset, ht⟩

/-- R25: every arrow of R24 ends in one of the six states, or where it began. -/
theorem exec_stateReached {i : Instr} {s t : State} (h : exec i s = .next t) (hs : StateReached s) :
    StateReached t := by
  unfold StateReached at *
  obtain same | ⟨_, ht, _⟩ | ⟨_, ht, _⟩ | ⟨_, ht | ht, _⟩ | ⟨_, ht, _⟩ | ⟨_, ht, _⟩ | ⟨_, ht, _⟩ | ⟨ht, _⟩ :=
    transition_exec h
  · rwa [same]
  all_goals
    rw [ht]
    decide

/-! `run_en` (R30). -/

theorem runFlagSound_of_off {s : State} (h : s.runEn = false) : RunFlagSound s := by
  intro on
  cases h.symm.trans on

/-- An operation that leaves the state and the flag alone. -/
theorem runFlagSound_congr {s t : State} (hs : RunFlagSound s) (state : t.ccb.state = s.ccb.state)
    (run : t.runEn = s.runEn) : RunFlagSound t := by
  rwa [RunFlagSound, state, run]

theorem sendSyn_runEn (s : State) : (sendSyn s).runEn = s.runEn := by
  unfold sendSyn
  dsimp only
  split <;> simp

theorem openConnection_runEn (addr : U32) (port : U16) (s : State) : (openConnection addr port s).runEn = s.runEn := by
  unfold openConnection
  dsimp only
  split
  · simp [sendSyn_runEn]
  · simp

theorem sendData_runEn (data : Buffer) (s : State) : (sendData data s).runEn = s.runEn := by
  unfold sendData
  dsimp only
  split
  · split <;> simp
  · simp

theorem runFlagSound_closeActive {s : State} (hs : RunFlagSound s) : RunFlagSound (closeActive s) := by
  unfold closeActive
  dsimp only
  split
  · exact fun _ => ⟨nofun, nofun⟩
  · exact runFlagSound_congr hs (sendSegment_state _ _ s) (sendSegment_runEn _ _ s)

theorem runFlagSound_close {s : State} (hs : RunFlagSound s) :
    RunFlagSound (if s.ccb.state = .established then closeActive s else closeByRelease s) := by
  split
  · exact runFlagSound_closeActive hs
  · exact runFlagSound_of_off rfl

/-- R229: the dispatcher clears the flag in a terminal state. -/
theorem runFlagSound_finishSegment (ran : HandleOutcome × State) : RunFlagSound (finishSegment ran) := by
  rw [finishSegment_eq]
  intro on
  simpa [not_or] using fun c => (if_pos (.inr c)).symm.trans on

theorem runFlagSound_receiveDatagram (B : Buffer) {s : State} (hs : RunFlagSound s) :
    RunFlagSound (receiveDatagram B s) := by
  unfold receiveDatagram
  split
  · exact hs
  · exact runFlagSound_finishSegment _

/-- What a step executes: a command, an event, or RESET. -/
def Taken (i : Instr) : Prop := Issued i ∨ i = .reset

/-- R30 under the operations a step takes. -/
theorem exec_runFlagSound {i : Instr} (taken : Taken i) {s t : State} (h : exec i s = .next t)
    (hs : RunFlagSound s) : RunFlagSound t := by
  cases i with
  | connect addr port =>
    by_cases closed : s.ccb.state = .closed
    · cases (exec_connect_of_closed closed).symm.trans h
      have off : s.runEn = false := Bool.eq_false_iff.mpr fun on => (hs on).1 closed
      exact runFlagSound_of_off ((openConnection_runEn addr port s).trans off)
    · cases (exec_connect_of_ne_closed closed).symm.trans h
      exact hs
  | send data =>
    by_cases est : s.ccb.state = .established
    · cases (exec_send_of_established data est).symm.trans h
      exact runFlagSound_congr hs (sendData_state data s) (sendData_runEn data s)
    · cases (exec_send_of_ne_established data est).symm.trans h
      exact hs
  | closeEstablished =>
    cases (exec_close (.inl rfl) s).symm.trans h
    exact runFlagSound_close hs
  | closeRelease =>
    cases (exec_close (.inr rfl) s).symm.trans h
    exact runFlagSound_close hs
  | run =>
    cases h
    split
    · exact hs
    · next live => exact fun _ => not_or.mp (mt (isTerminal_iff _).mpr live)
  | cmdReserved =>
    cases h
    exact hs
  | rxDatagram B =>
    obtain rfl := (of_guarded_refused h).2
    exact runFlagSound_receiveDatagram B hs
  | rxTimeout =>
    obtain rfl := (of_guarded_refused h).2
    exact hs
  | rxError =>
    obtain rfl := (of_guarded_refused h).2
    exact runFlagSound_of_off rfl
  | reset =>
    cases h
    exact runFlagSound_of_off rfl
  | _ => simp [Taken, Issued, isCommand, isRxEvent] at taken

end Sys2Proof.Proofs
end

section
/-! Steps (spec 20_memory.md R66, R72, R73; 44_dispatch_filter.md R220; 60_exceptions.md R274): what a step takes, and
what every step keeps. -/

namespace Sys2Proof.Proofs

open Sys2Proof.Machine Sys2Proof.Laws Sys2Proof.Safety

/-! What a step takes. -/

theorem step_of_fetch {s s' : State} {i : Instr} (h : fetch s = (some i, s')) :
    step s = if wellFormed s.params i then exec i s' else .refused .notPresented := by
  rw [step, h]

theorem step_of_fetch_none {s s' : State} (h : fetch s = (none, s')) : step s = .next s' := by
  rw [step, h]

theorem fetch_of_reset {s : State} (h : (drawBoundary s).1.reset = true) :
    fetch s = (some .reset, (drawBoundary s).2) := if_pos h

theorem fetch_of_low {s : State} (h : (drawBoundary s).1.reset = false) :
    fetch s = choose (drawBoundary s).1.commandFirst (drawBoundary s).2 := if_neg (Bool.eq_false_iff.mp h)

/-- Settles O2: RESET writes the zero block and the flag; a high sample is fetched as RESET. -/
theorem resetEventZeroesTheBlock : Obligations.ResetEventZeroesTheBlock := by
  unfold Obligations.ResetEventZeroesTheBlock
  refine ⟨fun _ => rfl, fun s h => ?_⟩
  exact step_of_fetch (fetch_of_reset h)

/-! The choice at a boundary (R72, D34). -/

theorem takeableRx_eq_nil {s : State} (h : s.runEn = false ∨ s.rxPort = []) : takeableRx s = [] := by
  unfold takeableRx
  obtain h | h := h <;> simp [h]

theorem takeableRx_of_run {s : State} (h : s.runEn = true) : takeableRx s = s.rxPort := if_pos h

theorem choose_command {first : Bool} {s : State} {word : CommandWord} {rest : List CommandWord}
    (hc : s.cmdPort = word :: rest) (before : takeableRx s = [] ∨ first = true) :
    choose first s = takeCommand word rest s := by
  unfold choose
  rw [hc]
  cases h : takeableRx s with
  | nil => rfl
  | cons outcome outcomes =>
    obtain none | rfl := before
    · cases h.symm.trans none
    · rfl

theorem choose_rx {first : Bool} {s : State} {outcome : RxOutcome} {rest : List RxOutcome}
    (hr : takeableRx s = outcome :: rest) (before : s.cmdPort = [] ∨ first = false) :
    choose first s = takeRx outcome rest s := by
  unfold choose
  rw [hr]
  cases h : s.cmdPort with
  | nil => rfl
  | cons word words =>
    obtain none | rfl := before
    · cases h.symm.trans none
    · rfl

theorem choose_nothing {first : Bool} {s : State} (hc : s.cmdPort = []) (hr : takeableRx s = []) :
    choose first s = (none, s) := by
  unfold choose
  rw [hc, hr]

/-- A command is well formed with any operands. -/
theorem wellFormed_decodeCommand (params : OpenParams) (st : TcpState) (word : CommandWord) :
    wellFormed params (decodeCommand st word) = true := by
  unfold decodeCommand
  split_ifs with connect send close _ run
  · rfl
  · rfl
  · rfl
  · rfl
  · rfl
  · simp only [wellFormed, Bool.and_eq_true, bne_iff_ne]
    exact ⟨⟨⟨connect, send⟩, close⟩, run⟩

theorem wellFormed_decodeRxOutcome {params : OpenParams} {outcome : RxOutcome}
    (short : ∀ B, outcome = .datagram B → B.length ≤ params.maxRxLen) :
    wellFormed params (decodeRxOutcome outcome) = true := by
  cases outcome with
  | datagram B => exact decide_eq_true (short B rfl)
  | timeout | error => rfl

section
variable {s : State} (low : (drawBoundary s).1.reset = false)
include low

theorem fetch_command {word : CommandWord} {rest : List CommandWord} (hc : s.cmdPort = word :: rest)
    (before : s.runEn = false ∨ s.rxPort = [] ∨ (drawBoundary s).1.commandFirst = true) :
    fetch s = (some (decodeCommand s.ccb.state word), { (drawBoundary s).2 with cmdPort := rest }) := by
  have ready : (drawBoundary s).2.cmdPort = word :: rest := by rwa [drawBoundary_cmdPort]
  have first : takeableRx (drawBoundary s).2 = [] ∨ (drawBoundary s).1.commandFirst = true :=
    (or_assoc.mpr before).imp_left fun none => takeableRx_eq_nil (by simpa using none)
  have state : (drawBoundary s).2.ccb.state = s.ccb.state := by rw [drawBoundary_ccb]
  rw [fetch_of_low low, choose_command ready first, takeCommand, state]

theorem fetch_rx {outcome : RxOutcome} {rest : List RxOutcome} (on : s.runEn = true)
    (hr : s.rxPort = outcome :: rest) (before : s.cmdPort = [] ∨ (drawBoundary s).1.commandFirst = false) :
    fetch s = (some (decodeRxOutcome outcome), { (drawBoundary s).2 with rxPort := rest }) := by
  have ready : takeableRx (drawBoundary s).2 = outcome :: rest := by
    rw [takeableRx_of_run (by rwa [drawBoundary_runEn]), drawBoundary_rxPort, hr]
  have first : (drawBoundary s).2.cmdPort = [] ∨ (drawBoundary s).1.commandFirst = false := by
    rwa [drawBoundary_cmdPort]
  rw [fetch_of_low low, choose_rx ready first, takeRx]

end

/-- Settles O53: what is fetched in each case is well formed, but for the over-long datagram. -/
theorem stepRunsTheDecodedOperation : Obligations.StepRunsTheDecodedOperation := by
  unfold Obligations.StepRunsTheDecodedOperation
  refine ⟨fun s word rest low hc before => ?_, fun s outcome rest low on hr before short => ?_,
    fun s B rest low on hr before long => ?_⟩
  · rw [step_of_fetch (fetch_command low hc before), if_pos (wellFormed_decodeCommand _ _ _)]
  · rw [step_of_fetch (fetch_rx low on hr before), if_pos (wellFormed_decodeRxOutcome short)]
  · have illFormed : ¬ wellFormed s.params (decodeRxOutcome (.datagram B)) = true :=
      fun wf => Nat.not_le.mpr long (of_decide_eq_true wf)
    rw [step_of_fetch (fetch_rx low on hr before), if_neg illFormed]

/-- Settles O54: nothing is fetched, so the state is the one the boundary's sample leaves. -/
theorem nothingToTakeIdles : Obligations.NothingToTakeIdles := by
  unfold Obligations.NothingToTakeIdles
  intro s low hc hr
  refine step_of_fetch_none ((fetch_of_low low).trans (choose_nothing (by simpa using hc) ?_))
  exact takeableRx_eq_nil (by simpa using hr)

/-! What a step keeps. -/

theorem isCommand_decodeCommand (st : TcpState) (word : CommandWord) : isCommand (decodeCommand st word) = true := by
  unfold decodeCommand
  split_ifs <;> rfl

theorem isRxEvent_decodeRxOutcome (outcome : RxOutcome) : isRxEvent (decodeRxOutcome outcome) = true := by
  cases outcome <;> rfl

theorem taken_of_fetch {s : State} {i : Instr} (h : (fetch s).1 = some i) : Taken i := by
  obtain e | e | ⟨word, rest, _, e⟩ | ⟨outcome, rest, _, _, e⟩ := fetch_cases s <;> rw [e] at h <;> cases h
  · exact .inr rfl
  · exact .inl (.inl (isCommand_decodeCommand _ word))
  · exact .inl (.inr (isRxEvent_decodeRxOutcome outcome))

/-- Fetching takes from the ports and the boundaries only. -/
theorem fetch_frame (s : State) :
    (fetch s).2.ccb = s.ccb ∧ (fetch s).2.runEn = s.runEn ∧ (fetch s).2.outputs = s.outputs := by
  obtain e | e | ⟨_, _, _, e⟩ | ⟨_, _, _, _, e⟩ := fetch_cases s <;> simp [e]

/-- Induction for one step: what fetching and every operation a step takes keep, the step keeps. -/
theorem step_keeps {P : State → Prop} {s t : State} (h : step s = .next t) (fetched : P (fetch s).2)
    (keep : ∀ i u, Taken i → exec i u = .next t → P u → P t) : P t := by
  obtain rfl | ⟨i, hi, _, he⟩ := step_cases s t h
  · exact fetched
  · exact keep i _ (taken_of_fetch hi) he fetched

/-! The parts of the invariant, one by one. -/

section
variable {s t : State} (h : step s = .next t)
include h

theorem step_runFlagSound (hs : RunFlagSound s) : RunFlagSound t := by
  obtain ⟨ccb, run, _⟩ := fetch_frame s
  exact step_keeps h (runFlagSound_congr hs (by rw [ccb]) run) fun _ _ taken => exec_runFlagSound taken

theorem step_countersTogether (hs : CountersTogether s) : CountersTogether t := by
  obtain ⟨ccb, _⟩ := fetch_frame s
  exact step_keeps h (by rwa [CountersTogether, ccb]) fun _ _ _ => exec_countersTogether

theorem step_stateReached (hs : StateReached s) : StateReached t := by
  obtain ⟨ccb, _⟩ := fetch_frame s
  exact step_keeps h (by rwa [StateReached, ccb]) fun _ _ _ => exec_stateReached

theorem step_windowsSound (hs : WindowsSound s) : WindowsSound t := by
  obtain ⟨ccb, _⟩ := fetch_frame s
  exact step_keeps h (by rwa [WindowsSound, ccb]) fun _ _ _ => exec_windowsSound

theorem step_widthsSound (hs : WidthsSound s) : WidthsSound t := by
  obtain ⟨ccb, _⟩ := fetch_frame s
  exact step_keeps h (by rwa [WidthsSound, ccb, fetch_params]) fun _ _ _ => exec_widthsSound

theorem step_params : t.params = s.params :=
  step_keeps (P := fun u => u.params = s.params) h (fetch_params s) fun _ _ _ he hu => (exec_params he).trans hu

/-- RESET puts nothing out. -/
theorem step_outputsSound (hw : WindowsSound s) (hs : OutputsSound s) : OutputsSound t := by
  obtain ⟨ccb, _, outputs⟩ := fetch_frame s
  have both : WindowsSound t ∧ OutputsSound t := by
    refine step_keeps (P := fun u => WindowsSound u ∧ OutputsSound u) h ?_ fun i u taken he hu => ?_
    · exact ⟨by rwa [WindowsSound, ccb], by rwa [OutputsSound, outputs]⟩
    · refine ⟨exec_windowsSound he hu.1, ?_⟩
      obtain issued | rfl := taken
      · exact exec_outputsSound issued he hu.1 hu.2
      · cases he
        exact hu.2
  exact both.2

/-- R220: while `run_en` = 0 the RX port is left as it is. -/
theorem step_rxPort (off : s.runEn = false) : t.rxPort = s.rxPort := by
  refine step_keeps (P := fun u => u.rxPort = s.rxPort) h ?_ fun _ _ _ he hu => (exec_rxPort he).trans hu
  obtain e | e | ⟨_, _, _, e⟩ | ⟨_, _, on, _⟩ := fetch_cases s
  · simp [e]
  · simp [e]
  · simp [e]
  · cases off.symm.trans on

end

/-- Settles O25: the events are guarded by the flag, and only fetching takes from the RX port. -/
theorem rxWaitsForRun : Obligations.RxWaitsForRun := by
  unfold Obligations.RxWaitsForRun
  intro s off
  have stopped : ¬ s.runEn = true := Bool.eq_false_iff.mp off
  exact ⟨fun _ => if_neg stopped, if_neg stopped, if_neg stopped, fun t h => step_rxPort h off⟩

/-- Settles O55: fetching leaves state and flag alone, and each operation a step takes keeps R30. -/
theorem stepKeepsTheRunFlagSound : Obligations.StepKeepsTheRunFlagSound := by
  unfold Obligations.StepKeepsTheRunFlagSound
  exact fun s t hs h => step_runFlagSound h hs

/-- Settles O56: every single write keeps the two counters equal. -/
theorem stepKeepsTheCountersTogether : Obligations.StepKeepsTheCountersTogether := by
  unfold Obligations.StepKeepsTheCountersTogether
  exact fun s t hs h => step_countersTogether h hs

/-- Settles O57: every arrow of R24 ends in one of the six states. -/
theorem stepStaysInTheReachedStates : Obligations.StepStaysInTheReachedStates := by
  unfold Obligations.StepStaysInTheReachedStates
  exact fun s t hs h => step_stateReached h hs

/-- Settles O58: every single write keeps the windows and the widths, and none writes the parameters. -/
theorem stepKeepsTheWindowsAndWidths : Obligations.StepKeepsTheWindowsAndWidths := by
  unfold Obligations.StepKeepsTheWindowsAndWidths
  exact ⟨fun s t hs h => step_windowsSound h hs, fun s t hs h => step_widthsSound h hs, fun i s t h => exec_params h,
    fun s t h => step_params h⟩

/-- Settles O59, part by part; soundness of what is put out rests on the window. -/
theorem stepKeepsTheInvariant : Obligations.StepKeepsTheInvariant := by
  unfold Obligations.StepKeepsTheInvariant
  intro s t inv h
  exact {
    runFlag := step_runFlagSound h inv.runFlag
    counters := step_countersTogether h inv.counters
    windows := step_windowsSound h inv.windows
    widths := step_widthsSound h inv.widths
    reached := step_stateReached h inv.reached
    outputs := step_outputsSound h inv.windows inv.outputs }

end Sys2Proof.Proofs
end

section
/-! The reset state (spec 10_state.md R34; 70_reset_and_hazards.md R301), the words of the table (30_encoding.md R100),
and what CONNECT forgets (10_state.md R35). -/

namespace Sys2Proof.Proofs

open Sys2Proof.Machine Sys2Proof.Laws Sys2Proof.Safety

/-- Settles O1: the reset state is written out in the model. -/
theorem resetStateIsAllZero : Obligations.ResetStateIsAllZero := by
  unfold Obligations.ResetStateIsAllZero
  exact ⟨rfl, rfl, rfl, rfl, rfl, rfl, rfl, rfl, rfl, rfl, rfl, rfl, rfl, rfl, rfl⟩

/-- Settles O60: the flag is off, the block is zero, nothing was put out. -/
theorem resetMeetsTheInvariant : Obligations.ResetMeetsTheInvariant := by
  unfold Obligations.ResetMeetsTheInvariant
  exact {
    runFlag := runFlagSound_of_off rfl
    counters := rfl
    windows := ⟨rfl, rfl, .inl rfl, fun h => absurd rfl h⟩
    widths := ⟨Nat.two_pow_pos _, Nat.two_pow_pos _⟩
    reached := List.mem_cons_self
    outputs := nofun }

/-- Settles O6: closed words, evaluated. -/
theorem wordsOfTheTableDecode : Obligations.WordsOfTheTableDecode := by
  unfold Obligations.WordsOfTheTableDecode
  decide

/-- The answer to a CONNECT does not depend on the block. -/
theorem drawConnect_of_ccb (c : Ccb) (s : State) :
    drawConnect { s with ccb := c } = ((drawConnect s).1, { (drawConnect s).2 with ccb := c }) := by
  cases h : s.connectDraws <;> simp [drawConnect, h]

/-- Settles O40: with the transport available CONNECT writes every field of the block over. -/
theorem connectForgetsTheOldBlock : Obligations.ConnectForgetsTheOldBlock := by
  unfold Obligations.ConnectForgetsTheOldBlock
  intro addr port s c hs hc hx
  rw [exec_connect_of_closed (s := { s with ccb := c }) hc, exec_connect_of_closed hs, openConnection_transport hx,
    openConnection_transport (by rwa [drawConnect_of_ccb]), drawConnect_of_ccb]
  rfl

end Sys2Proof.Proofs
end
